-- ==== Sys2Proof/Word.lean ====
section
/-! DEFINITION. The words of the two lines: bytes of the host link, characters of the corridor line. -/

namespace Sys2Proof

/-- A byte of a host record, or the eight data bits of a corridor character (R144, R178). -/
abbrev Byte := BitVec 8

/-- One character received on the corridor line, between its start bit and the next (R144): the eight data
bits, the parity bit, and whether the stop bit was at mark. -/
structure LineChar where
  data   : Byte
  parity : Bool
  stop   : Bool
  deriving DecidableEq, Repr

end Sys2Proof
end

