-- ==== Sys2Proof/Syntax.lean ====
section
/-! DEFINITION. The commands of the FC-12: one constructor for each row of spec/opcode_table.json.

A request is carried out from the head of the request queue, where its arguments stand in the received record
(R180, R181), so a request's constructor has no operand (log 2). The other operands are what the two lines and
the time base bring in (log 1, 4, 5). -/

namespace Sys2Proof

/-- The commands, in the order of the table. -/
inductive Instr where
  /-- COLD_RESET (R17): power-up or the reset pin. -/
  | coldReset
  /-- HOST_RECORD_RECEIVED (R179): bytes arrive on the host link. -/
  | hostRecordReceived (bytes : List Byte)
  /-- HOST_GAP_TIMEOUT (R179): more than 20 ms pass with a host record incomplete. -/
  | hostGapTimeout
  /-- HOST_RECORD_BEGIN (R182): the free host transmitter begins the next record. -/
  | hostRecordBegin
  /-- HOST_RECORD_SENT (R180): the last byte of a host record is sent. -/
  | hostRecordSent
  /-- UNKNOWN_KIND_REQUEST (R181): a request of no catalogue kind is taken. -/
  | unknownKindRequest
  /-- IDENTIFY (R183). -/
  | identify
  /-- STATUS (R189). -/
  | status
  /-- SET_NOTICE_MASK (R190). -/
  | setNoticeMask
  /-- RESET (R18): the warm reset. -/
  | reset
  /-- DEFINE_JUNCTION (R2). -/
  | defineJunction
  /-- REMOVE_JUNCTION (R4). -/
  | removeJunction
  /-- READ_JUNCTION (R187). -/
  | readJunction
  /-- WRITE_PLAN (R25). -/
  | writePlan
  /-- READ_PLAN (R33). -/
  | readPlan
  /-- SET_CORRIDOR (R184). -/
  | setCorridor
  /-- READ_CORRIDOR (R185). -/
  | readCorridor
  /-- START (R8). -/
  | start
  /-- STOP (R10). -/
  | stop
  /-- SWITCH_PLAN (R135). -/
  | switchPlan
  /-- PRELOAD_PLAN (R137). -/
  | preloadPlan
  /-- HOLD_DIRECTION (R77). -/
  | holdDirection
  /-- FREE_JUNCTION (R114). -/
  | freeJunction
  /-- RESEEK_JUNCTION (R113). -/
  | reseekJunction
  /-- SEED_QUEUE (R72). -/
  | seedQueue
  /-- INJECT_SKEW (R115). -/
  | injectSkew
  /-- READ_PROGRESSION (R188). -/
  | readProgression
  /-- LOOPBACK_TEST (R163). -/
  | loopbackTest
  /-- LOOPBACK_BEGIN (R163): the transmitter is taken off the line. -/
  | loopbackBegin
  /-- TEST_FRAME_BEGIN (R163): the next TEST frame begins on the internal loop. -/
  | testFrameBegin
  /-- LOOPBACK_FRAME_RECEIVED (R163): characters arrive on the internal loop. -/
  | loopbackFrameReceived (chars : List LineChar)
  /-- LOOPBACK_COMPLETE (R164): the last copy has matched or its time has passed. -/
  | loopbackComplete
  /-- CYCLE_ZERO (R13): master time reaches C and returns to 0. -/
  | cycleZero
  /-- BEACON_BEGIN (R154): the beacon's first character begins at that master time. -/
  | beaconBegin (masterTime : Nat)
  /-- BEACON_WITHDRAWN (R155): master time passes the lateness limit with the beacon waiting. -/
  | beaconWithdrawn
  /-- BEACON_SENT (R156): the beacon's last character is sent. -/
  | beaconSent
  /-- POLL_BEGIN (R157): the sweep's next POLL begins. -/
  | pollBegin
  /-- DOWNLOAD_FRAME_BEGIN (R153): the download frame at the head of the queue begins. -/
  | downloadFrameBegin
  /-- EXCHANGE_FRAME_SENT (R151): the last character of a POLL or IMAGE LOAD ends. -/
  | exchangeFrameSent
  /-- REPLY_TIMEOUT (R151): the reply window closes. -/
  | replyTimeout
  /-- FRAME_TRUNCATED (R149): the line falls quiet with a frame in assembly. -/
  | frameTruncated
  /-- CORRIDOR_FRAME_RECEIVED (R151): `chars` arrive on the corridor line; `carrierAfter` says whether a further
  character has begun when they end; `prompt` says whether the Line Controller checks complete frames at once or
  leaves them in the receive buffer (R150). -/
  | corridorFrameReceived (chars : List LineChar) (carrierAfter : Bool) (prompt : Bool)
  /-- SWEEP_DEADLINE (R159): master time reaches C - 100 with the sweep in progress. -/
  | sweepDeadline
  /-- COMPUTATION_COMPLETE (R53). -/
  | computationComplete
  /-- DOWNLOAD_GUARD (R153): master time reaches C - 60. -/
  | downloadGuard
  /-- LINE_QUALITY_WINDOW_END (R162): a 900 s window ends. -/
  | lineQualityWindowEnd
  deriving DecidableEq, Repr

end Sys2Proof
end

