-- ==== Sys2Proof/Config.lean ====
section
/-! DEFINITION. The capacities the part fixes, and the free values the manual leaves open. -/

namespace Sys2Proof.Config

/-- The request queue holds 4 received requests (R180). -/
def requestQueueSize : Nat := 4
/-- The refusal list holds 4 entries (R180). -/
def refusalListSize : Nat := 4
/-- The notice queue holds 32 notices (R192). -/
def noticeQueueSize : Nat := 32
/-- The transmit queue holds 16 frames (R152). -/
def transmitQueueSize : Nat := 16
/-- The Directory Unit queues frames only while the transmit queue holds fewer than 4 (R130). -/
def downloadFeedSize : Nat := 4
/-- The receive buffer holds 96 characters (R150). -/
def receiveBufferSize : Nat := 96
/-- The longest body of a corridor frame (R145). -/
def longestBody : Nat := 83
/-- The family code that IDENTIFY reports (R183). -/
def familyCode : Nat := 0x0C12
/-- The revision that IDENTIFY reports (R183). -/
def revision : Nat := 1
/-- The sweep deadline falls at C less this many deciseconds (R15). -/
def sweepDeadlineBefore : Nat := 100
/-- The download guard falls at C less this many deciseconds (R15). -/
def downloadGuardBefore : Nat := 60
/-- A line-quality window lasts 900 s, in deciseconds (R162). -/
def qualityWindow : Nat := 9000

/-- FREE VALUE (log 6): of two blocks that offer notices at one moment, whether the first block's offer goes
first. The manual allows either order (R191). -/
opaque freeOrder : Nat → Bool

/-- FREE VALUE (log 7): the holding cause reported for a beacon withdrawn while both foreign carrier and an
awaited reply hold the line (R155); true is "a reply awaited". -/
opaque freeHoldingCause : Nat → Bool

/-- FREE VALUE (log 33): what a download frame carries in a field that its plan leaves unset at the first queuing,
which the manual does not state (R130). -/
opaque freeUnsetField : Nat → Nat

end Sys2Proof.Config
end

