-- ==== Sys2Proof/Machine/State.lean ====
section
/-! DEFINITION. The state of the FC-12 as plain data, block by block, and the part after a cold reset. -/

namespace Sys2Proof.Machine

/-! ### Names: slots, plans, modes and codes -/

/-- A junction slot, 1 to 12; slot 1 is nearest the city centre (00, "Slots, order and direction"). -/
inductive Slot where
  | k1 | k2 | k3 | k4 | k5 | k6 | k7 | k8 | k9 | k10 | k11 | k12
  deriving DecidableEq, Repr

/-- One value for each junction slot. -/
structure PerSlot (α : Type) where
  (k1 k2 k3 k4 k5 k6 k7 k8 k9 k10 k11 k12 : α)
  deriving DecidableEq, Repr

/-- The same value in every slot. -/
def PerSlot.fill {α : Type} (a : α) : PerSlot α := ⟨a, a, a, a, a, a, a, a, a, a, a, a⟩

/-- A plan number, 1 to 16 (R19). -/
inductive PlanNo where
  | p1 | p2 | p3 | p4 | p5 | p6 | p7 | p8 | p9 | p10 | p11 | p12 | p13 | p14 | p15 | p16
  deriving DecidableEq, Repr

/-- A directory slot of a junction controller, 0 to 3 (R122). -/
inductive DirSlot where
  | d0 | d1 | d2 | d3
  deriving DecidableEq, Repr

/-- One value for each of the two arterial approaches of a junction. -/
structure Both (α : Type) where
  inbound  : α
  outbound : α
  deriving DecidableEq, Repr

/-- The corridor state (R6). -/
inductive CorridorState where
  | idle | starting | running | stopping
  deriving DecidableEq, Repr

/-- The direction mode (R61). -/
inductive Mode where
  | balanced | inbound | outbound
  deriving DecidableEq, Repr

/-- The step state of a junction slot (R98). -/
inductive StepState where
  | vacant | startingFree | absent | seeking | confirming | inStep | yielded | released | excluded
  deriving DecidableEq, Repr

/-- The command of a beacon entry (R165). -/
inductive Command where
  | free | run
  deriving DecidableEq, Repr

/-- The local mode a cycle report shows (R173). -/
inductive LocalMode where
  | coordinated | free | manual | flash
  deriving DecidableEq, Repr

/-- The seek state of a transition record (R80). -/
inductive SeekState where
  | off | unmodelled | aligned | lengthening | shortening | blocked
  deriving DecidableEq, Repr

/-- Why an Excluded junction was excluded (R97). -/
inductive ExclusionCause where
  | none | follow | plan
  deriving DecidableEq, Repr

/-- The cause of a step-state change, in the order of R112. -/
inductive StepCause where
  | matched | mismatch | relock | miss | report | localMode | order | commit | plan
  deriving DecidableEq, Repr

/-- How a junction's poll in the last sweep ended (R97). -/
inductive SweepOutcome where
  | none | answered | missed
  deriving DecidableEq, Repr

/-- An outcome in the slip window (R97). -/
inductive WindowOutcome where
  | matched | slip | miss
  deriving DecidableEq, Repr

/-- The kind of a mismatch (R102). -/
inductive Mismatch where
  | offset | slot | mode
  deriving DecidableEq, Repr

/-- The fault of a discarded host record (R179, R180). -/
inductive HostFault where
  | length | gap | crc | refusalOverflow
  deriving DecidableEq, Repr

/-! ### Corridor Control and the Cycle Clock (chapter 1) -/

/-- A junction definition (R1). -/
structure JunctionDef where
  address   : Nat
  position  : Nat
  lanesIn   : Nat
  lanesOut  : Nat
  lengthIn  : Nat
  lengthOut : Nat
  deriving DecidableEq, Repr

/-- The corridor settings (R183, the settings table). -/
structure Settings where
  tolerance        : Nat
  slipWindow       : Nat
  confirmCount     : Nat
  relock           : Bool
  followLimit      : Nat
  yieldToLocal     : Bool
  lengthenLimit    : Nat
  shortenLimit     : Nat
  retarget         : Nat
  switchDeadline   : Nat
  fallback         : Option PlanNo
  spillOccupancy   : Nat
  inboundEntry     : Nat
  outboundEntry    : Nat
  minimumVolume    : Nat
  replyTimeout     : Nat
  latenessLimit    : Nat
  qualityThreshold : Nat
  deriving DecidableEq, Repr

/-- The defaults of the settings, which a cold reset sets (R183). -/
def Settings.default : Settings :=
  { tolerance := 20, slipWindow := 5, confirmCount := 2, relock := true, followLimit := 4, yieldToLocal := true,
    lengthenLimit := 20, shortenLimit := 10, retarget := 15, switchDeadline := 3, fallback := none,
    spillOccupancy := 70, inboundEntry := 20, outboundEntry := 12, minimumVolume := 40, replyTimeout := 250,
    latenessLimit := 50, qualityThreshold := 20 }

/-- What Corridor Control owns. -/
structure Corridor where
  state      : CorridorState
  table      : PerSlot (Option JunctionDef)
  settings   : Settings
  /-- Storage capacity S of both approaches of every slot (R5). -/
  capacity   : PerSlot (Both Nat)
  /-- The starting plan kept from START to the entry to Idle (R167). -/
  startingPlan : Option PlanNo
  deriving DecidableEq, Repr

/-- What the Cycle Clock owns. -/
structure Clock where
  /-- Master time in deciseconds (R13). -/
  masterTime : Nat
  /-- The sequence number (R14). -/
  sequence   : Nat
  /-- The length C of the present master cycle, fixed at its cycle zero (R13); 0 while the clock is stopped. -/
  length     : Nat
  deriving DecidableEq, Repr

/-! ### The Plan Table (chapter 2) -/

/-- A plan record (R19). An unset field is none; an absent image is the empty list (R22). -/
structure PlanRecord where
  cycle  : Option Nat
  green  : PerSlot (Option Nat)
  image  : PerSlot (List Byte)
  sIn    : Option Nat
  sOut   : Option Nat
  ref    : Option Slot
  oRef   : Option Nat
  loss   : Option Nat
  headway : Option Nat
  wIn    : Option Nat
  wOut   : Option Nat
  deriving DecidableEq, Repr

/-- The record with every field unset (R19). -/
def PlanRecord.blank : PlanRecord :=
  { cycle := none, green := PerSlot.fill none, image := PerSlot.fill [], sIn := none, sOut := none, ref := none,
    oRef := none, loss := none, headway := none, wIn := none, wOut := none }

/-- The sixteen plan records (R19). -/
structure PlanTable where
  (p1 p2 p3 p4 p5 p6 p7 p8 p9 p10 p11 p12 p13 p14 p15 p16 : PlanRecord)
  deriving DecidableEq, Repr

/-- Every record blank (R17, R19). -/
def PlanTable.blank : PlanTable :=
  ⟨.blank, .blank, .blank, .blank, .blank, .blank, .blank, .blank, .blank, .blank, .blank, .blank, .blank, .blank, .blank, .blank⟩

/-! ### The Flow Estimator (chapter 4) -/

/-- The record of one approach (R60). -/
structure Approach where
  queue          : Nat
  reachedStorage : Bool
  high           : Nat
  low            : Nat
  spillback      : Bool
  heldDepartures : Nat
  heldOccupancy  : Nat
  advanceFault   : Bool
  stopFault      : Bool
  deriving DecidableEq, Repr

/-- The approach record that START creates (R60). -/
def Approach.initial : Approach :=
  { queue := 0, reachedStorage := false, high := 0, low := 0, spillback := false, heldDepartures := 0,
    heldOccupancy := 0, advanceFault := false, stopFault := false }

/-- What the Flow Estimator owns (R60, R61). -/
structure Flow where
  /-- The two approach records of each slot; none where the slot has no record. -/
  approaches : PerSlot (Option (Both Approach))
  mode       : Mode
  /-- The held mode; none is Auto. -/
  hold       : Option Mode
  candidate  : Option Mode
  confirmation : Nat
  volumeIn   : Nat
  volumeOut  : Nat
  ratio      : Nat
  deriving DecidableEq, Repr

/-! ### The Progression Engine (chapter 3) -/

/-- What a computation keeps of one defined slot (R37). -/
structure SnapSlot where
  position : Nat
  green    : Nat
  queueIn  : Nat
  queueOut : Nat
  counted  : Bool
  /-- The current offset Oc, taken for a counted junction. -/
  offset   : Option Nat
  deriving DecidableEq, Repr

/-- The snapshot of a computation (R37). -/
structure Snapshot where
  sequence : Nat
  cycle    : Nat
  sIn      : Nat
  sOut     : Nat
  ref      : Slot
  oRef     : Nat
  loss     : Nat
  headway  : Nat
  wIn      : Nat
  wOut     : Nat
  mode     : Mode
  ratio    : Nat
  slots    : PerSlot (Option SnapSlot)
  deriving DecidableEq, Repr

/-- The outcome of a computation (R35). -/
structure Results where
  sequence : Nat
  offset   : PerSlot (Option Nat)
  mode     : Mode
  ratio    : Nat
  weight   : Nat
  counted  : Nat
  designed : Both Nat
  current  : Both Nat
  designedShare : Both Nat
  currentShare  : Both Nat
  deriving DecidableEq, Repr

/-- What the Progression Engine owns (R35). `results` is none while Present is false. -/
structure Engine where
  results  : Option Results
  inFlight : Option Snapshot
  deriving DecidableEq, Repr

/-! ### The Transition Unit (chapter 5) -/

/-- The model of a junction with its current offset Oc (R81). -/
inductive Model where
  | none
  | retained (offset : Nat)
  | valid (offset : Nat)
  deriving DecidableEq, Repr

/-- The transition record of a slot (R80). -/
structure TransitionRecord where
  model       : Model
  target      : Option Nat
  seek        : SeekState
  lastLength  : Option Nat
  lastAdj     : Int
  pendingSkew : Option Int
  lastSkew    : Int
  deriving DecidableEq, Repr

/-- The transition record that START creates (R80). -/
def TransitionRecord.initial : TransitionRecord :=
  { model := .none, target := none, seek := .off, lastLength := none, lastAdj := 0, pendingSkew := none,
    lastSkew := 0 }

/-- What an assembled entry does with a pending skew (R88). -/
inductive SkewUse where
  /-- No skew stood, or it is kept pending. -/
  | untouched
  /-- A RUN entry carries it; the effective amount. -/
  | applied (effective : Int)
  /-- A FREE entry discards it. -/
  | discarded
  deriving DecidableEq, Repr

/-- The tentative copy of one slot's record as the assembly left it, with its beacon entry (R87). -/
structure TentativeCopy where
  command : Command
  slot    : DirSlot
  seek    : SeekState
  length  : Nat
  adj     : Int
  model   : Model
  skew    : SkewUse
  /-- The expected offset: the model before the assembly moved it. -/
  expected : Model
  deriving DecidableEq, Repr

/-- The tentative copies of one assembly, with the sequence number of their beacon (R87). -/
structure Tentative where
  sequence : Nat
  copies   : PerSlot (Option TentativeCopy)
  deriving DecidableEq, Repr

/-- A message held while a tentative copy exists (R81, R88). -/
inductive HeldMessage where
  | suspendModel | dropModel | discardSkew
  deriving DecidableEq, Repr

/-- What the Transition Unit owns (R80). -/
structure Transition where
  records   : PerSlot (Option TransitionRecord)
  adoptAll  : Bool
  tentative : Option Tentative
  /-- Held messages, oldest first. -/
  held      : List (Slot × HeldMessage)
  deriving DecidableEq, Repr

/-! ### The Step Monitor (chapter 6) -/

/-- The alignment memory of a slot (R99). -/
structure Memory where
  sequence : Nat
  cycle    : Nat
  lateness : Nat
  command  : Command
  slot     : DirSlot
  expected : Model
  deriving DecidableEq, Repr

/-- The step record of a slot (R97). -/
structure StepRecord where
  state     : StepState
  run       : Nat
  window    : List WindowOutcome
  misses    : Nat
  failures  : Nat
  cause     : ExclusionCause
  localMode : Option LocalMode
  sweep     : SweepOutcome
  measured  : Option Nat
  error     : Option Int
  memory    : Option Memory
  deriving DecidableEq, Repr

/-- The record of an undefined slot: Vacant and nothing else (R97). -/
def StepRecord.vacant : StepRecord :=
  { state := .vacant, run := 0, window := [], misses := 0, failures := 0, cause := .none, localMode := none,
    sweep := .none, measured := none, error := none, memory := none }

/-- The initial record of a defined slot (R97). -/
def StepRecord.initial : StepRecord := { StepRecord.vacant with state := .startingFree }

/-! ### The Directory Unit (chapter 7) -/

/-- What a directory slot held when a download into it was queued (R122). -/
inductive Content where
  | empty
  | valid (p : PlanNo)
  | stale (p : PlanNo)
  deriving DecidableEq, Repr

/-- One directory slot (R122). -/
inductive SlotContent where
  | empty
  | loading (p : PlanNo) (staleMark : Bool) (prior : Content)
  | valid (p : PlanNo)
  | stale (p : PlanNo)
  deriving DecidableEq, Repr

/-- The directory of one junction (R122, R123). The bits are as R199 codes them: `top` true points to {2, 3},
`bitA` true to slot 1, `bitB` true to slot 3. -/
structure Directory where
  d0 : SlotContent
  d1 : SlotContent
  d2 : SlotContent
  d3 : SlotContent
  top  : Bool
  bitA : Bool
  bitB : Bool
  deriving DecidableEq, Repr

/-- Four Empty slots with initial bits (R122, R123). -/
def Directory.initial : Directory :=
  { d0 := .empty, d1 := .empty, d2 := .empty, d3 := .empty, top := false, bitA := false, bitB := false }

/-- The stage of a download order (R129). -/
inductive Stage where
  | waiting | queued | onLine
  deriving DecidableEq, Repr

/-- The frame content of an order, fixed at its first queuing (R129, R130). -/
structure LoadContent where
  cycle : Nat
  green : Nat
  image : List Byte
  deriving DecidableEq, Repr

/-- A download order (R129). -/
structure Order where
  slot     : Slot
  plan     : PlanNo
  stage    : Stage
  attempts : Nat
  target   : Option DirSlot
  content  : Option LoadContent
  noRetry  : Bool
  deriving DecidableEq, Repr

/-- What the Directory Unit owns (R122, R126, R129). -/
structure DirectoryUnit where
  dirs     : PerSlot Directory
  active   : Option PlanNo
  pending  : Option PlanNo
  deadline : Nat
  orders   : List Order
  deriving DecidableEq, Repr

/-! ### The Line Controller (chapter 8) and the beacon (chapter 9) -/

/-- One entry of a beacon (R165). -/
structure BeaconEntry where
  address : Nat
  command : Command
  slot    : DirSlot
  length  : Nat
  deriving DecidableEq, Repr

/-- An assembled beacon, its lateness still open (R165). -/
structure Beacon where
  sequence : Nat
  cycle    : Nat
  plan     : Option PlanNo
  entries  : List BeaconEntry
  /-- Whether it was assembled in Stopping (R11, R156). -/
  stopping : Bool
  deriving DecidableEq, Repr

/-- An IMAGE LOAD frame in the transmit queue (R130). -/
structure ImageLoad where
  slot    : Slot
  plan    : PlanNo
  target  : DirSlot
  content : LoadContent
  deriving DecidableEq, Repr

/-- A frame of the transmit queue (R152). -/
inductive TxFrame where
  | beacon (b : Beacon)
  | load (f : ImageLoad)
  deriving DecidableEq, Repr

/-- The transmitter (R147). -/
inductive Transmitter where
  | free | sending | awaiting | test
  deriving DecidableEq, Repr

/-- The beacon of the cycle (R147). Waiting carries the lateness limit read at its cycle zero (R154); Sending
carries the beacon that is on the line. -/
inductive BeaconPhase where
  | none
  | waiting (limit : Nat)
  | sending (b : Beacon)
  | sent
  | withdrawn
  deriving DecidableEq, Repr

/-- The kind of an exchange (R147). -/
inductive ExchangeKind where
  | poll | download
  deriving DecidableEq, Repr

/-- The exchange in progress (R151). `window` is the time in ms left until the reply window closes; none while
the frame is still being sent, and once the window has closed with a frame that began within it still to be
decided. -/
structure Exchange where
  kind    : ExchangeKind
  slot    : Slot
  address : Nat
  attempt : Nat
  window  : Option Nat
  deriving DecidableEq, Repr

/-- The reply window in which a received frame's first character began (R151, R161): the exchange's junction
slot and field address, and whether that exchange is still open. -/
structure WindowTag where
  slot    : Slot
  address : Nat
  live    : Bool
  deriving DecidableEq, Repr

/-- A received frame: the characters after its start character, and the window it began in (R149, R151). -/
structure RxFrame where
  chars : List Byte
  tag   : Option WindowTag
  deriving DecidableEq, Repr

/-- The sweep in progress (R157). -/
structure Sweep where
  sequence : Nat
  /-- The current slot and its attempt, 1 or 2. -/
  current  : Option (Slot × Nat)
  /-- The defined slots not yet polled, in ascending order. -/
  waiting  : List Slot
  deriving DecidableEq, Repr

/-- The line-quality record of a slot (R147, R161). -/
structure Quality where
  count   : Nat
  current : Bool
  deriving DecidableEq, Repr

/-- The loopback record (R147, R163, R164). -/
structure Loopback where
  repetitions : Nat
  payload     : List Byte
  sent        : Nat
  matched     : Nat
  /-- Whether the copy of the repetition last sent has matched. -/
  thisMatched : Bool
  errors      : Nat
  deriving DecidableEq, Repr

/-- What the Line Controller owns (R147). -/
structure Line where
  transmitter : Transmitter
  /-- The characters of the frame being sent; empty when none is. -/
  txChars   : List LineChar
  carrier   : Bool
  /-- Time in ms since the line last fell quiet; none while it is not quiet. -/
  quietFor  : Option Nat
  queue     : List TxFrame
  /-- The frame in assembly. -/
  assembly  : Option RxFrame
  /-- Complete frames not yet checked, oldest first. -/
  unchecked : List RxFrame
  exchange  : Option Exchange
  beacon    : BeaconPhase
  sweep     : Option Sweep
  /-- Whether the download period is open. -/
  period    : Bool
  /-- Time elapsed in the line-quality window, in deciseconds. -/
  windowTime : Nat
  quality   : PerSlot Quality
  loopback  : Option Loopback
  deriving DecidableEq, Repr

/-! ### The Host Link Interface and the Notice Unit (chapter 10) -/

/-- A received request (R179). -/
structure Request where
  kind : Byte
  tag  : Byte
  body : List Byte
  deriving DecidableEq, Repr

/-- What a notice takes from the moment at which it is offered: the sequence number (R191), and the active and the
pending plan that the Directory Unit supplies (R143). -/
structure NoticeStamp where
  sequence : Nat
  active   : Option PlanNo
  pending  : Option PlanNo
  deriving DecidableEq, Repr

/-- Where a record for the host comes from (R182). A notice keeps its stamp, so that it reports the active and the pending
plan (R143) while its record is being sent, whose bytes have no place for them (R196; log 40). -/
inductive OutSource where
  | reply
  | refusal
  | notice (stamp : NoticeStamp)
  deriving DecidableEq, Repr

/-- A record for the host, less its envelope. -/
structure OutRecord where
  source : OutSource
  kind   : Byte
  tag    : Byte
  body   : List Byte
  deriving DecidableEq, Repr

/-- The record in transmission: where it comes from, and its bytes on the link (R178). -/
structure SendingRecord where
  source : OutSource
  wire   : List Byte
  deriving DecidableEq, Repr

/-- What the Host Link Interface owns. -/
structure HostLink where
  /-- The receive framer: none while it hunts, else the bytes of the record after its sync byte. -/
  framer  : Option (List Byte)
  /-- The request queue; the request being carried out keeps its place at the head (R180). -/
  queue   : List Request
  /-- Whether the request at the head has been taken and its reply has not yet been sent. -/
  serving : Bool
  /-- Replies and refusals waiting for the transmitter, in the order they became ready (R182). -/
  outbox  : List OutRecord
  sending : Option SendingRecord
  deriving DecidableEq, Repr

/-- The kind data of a status kind or notice kind (R190, the table of kinds). -/
inductive KindData where
  | corridorState (old new : CorridorState)
  | planCommitted (previous : Option PlanNo) (new : PlanNo) (byDeadline : Bool) (lacking : Nat)
  | planExclusion (slots : List Slot)
  | directionChanged (old new : Mode) (byHold : Bool) (ratio : Nat)
  | beaconSkipped (sequence : Nat) (replyAwaited : Bool)
  | sweepOverrun (sequence : Nat) (first : Slot) (missed : Nat)
  | transitionBlocked (slots : List Slot)
  | hostFrameError (fault : HostFault)
  | stepChange (old new : StepState) (cause : StepCause)
  | slip (error : Int) (kind : Mismatch) (slips : Nat)
  | realigned (retained measured : Nat) (error : Int)
  | spillback (inbound outbound : Bool)
  | detectorFault (inAdvance inStop outAdvance outStop : Bool)
  | lineQuality (count threshold : Nat)
  | downloadFailed (plan : PlanNo) (slot : DirSlot) (attempts : Nat) (timedOut : Bool)
  | cycleSummary (sequence : Nat) (mode : Mode) (ratio : Nat) (designed current : Both Nat) (counted : Nat)
  deriving DecidableEq, Repr

/-- The latch of an event kind (10.5). -/
structure EventLatch where
  latched : Bool
  count   : Nat
  data    : Option KindData
  deriving DecidableEq, Repr

/-- The latch of a condition kind (10.5). -/
structure ConditionLatch where
  latched : Bool
  current : Bool
  data    : Option KindData
  deriving DecidableEq, Repr

/-- A latch as a reset leaves it. -/
def EventLatch.clear : EventLatch := { latched := false, count := 0, data := none }

/-- A latch as a reset leaves it. -/
def ConditionLatch.clear : ConditionLatch := { latched := false, current := false, data := none }

/-- The latches kept once for the corridor (10.5). -/
structure CorridorLatches where
  corridorState     : EventLatch
  planCommitted     : EventLatch
  planExclusion     : EventLatch
  directionChanged  : EventLatch
  beaconSkipped     : EventLatch
  sweepOverrun      : EventLatch
  transitionBlocked : ConditionLatch
  hostFrameError    : EventLatch
  noticeOverflow    : EventLatch
  deriving DecidableEq, Repr

/-- The latches kept for each junction slot (10.5). -/
structure SlotLatches where
  stepChange     : EventLatch
  slip           : EventLatch
  realigned      : EventLatch
  spillback      : ConditionLatch
  detectorFault  : ConditionLatch
  lineQuality    : ConditionLatch
  downloadFailed : EventLatch
  deriving DecidableEq, Repr

/-- Every corridor latch clear. -/
def CorridorLatches.clear : CorridorLatches :=
  { corridorState := .clear, planCommitted := .clear, planExclusion := .clear, directionChanged := .clear,
    beaconSkipped := .clear, sweepOverrun := .clear, transitionBlocked := .clear, hostFrameError := .clear,
    noticeOverflow := .clear }

/-- Every latch of a slot clear. -/
def SlotLatches.clear : SlotLatches :=
  { stepChange := .clear, slip := .clear, realigned := .clear, spillback := .clear, detectorFault := .clear,
    lineQuality := .clear, downloadFailed := .clear }

/-- The notice kinds, 1 to 17 (R190). -/
inductive NoticeKind where
  | corridorState | planCommitted | planExclusion | directionChanged | beaconSkipped | sweepOverrun
  | transitionBlocked | hostFrameError | noticeOverflow | stepChange | slip | realigned | spillback
  | detectorFault | lineQuality | downloadFailed | cycleSummary
  deriving DecidableEq, Repr

/-- The notice masks; true is unmasked. NOTICE_OVERFLOW has none (R190). -/
structure Masks where
  corridorState     : Bool
  planCommitted     : Bool
  planExclusion     : Bool
  directionChanged  : Bool
  beaconSkipped     : Bool
  sweepOverrun      : Bool
  transitionBlocked : Bool
  hostFrameError    : Bool
  stepChange        : Bool
  slip              : Bool
  realigned         : Bool
  spillback         : Bool
  detectorFault     : Bool
  lineQuality       : Bool
  downloadFailed    : Bool
  cycleSummary      : Bool
  deriving DecidableEq, Repr

/-- Every kind masked (R17, R190). -/
def Masks.allMasked : Masks :=
  ⟨false, false, false, false, false, false, false, false, false, false, false, false, false, false, false, false⟩

/-- A notice as it stands in the notice queue (R143, R191). -/
structure Notice where
  data      : KindData
  slot      : Option Slot
  stamp     : NoticeStamp
  again     : Bool
  deriving DecidableEq, Repr

/-- What the Notice Unit owns. -/
structure NoticeUnit where
  corridor : CorridorLatches
  slots    : PerSlot SlotLatches
  masks    : Masks
  queue    : List Notice
  deriving DecidableEq, Repr

/-! ### The whole part -/

/-- The state of the FC-12, block by block, with the queue of commands that wait. -/
structure State where
  corridor   : Corridor
  clock      : Clock
  plans      : PlanTable
  flow       : Flow
  engine     : Engine
  transition : Transition
  monitor    : PerSlot StepRecord
  directory  : DirectoryUnit
  line       : Line
  host       : HostLink
  notices    : NoticeUnit
  /-- The MODEL's own: how many free values have been drawn (log 6). -/
  free       : Nat
  /-- The MODEL's own: the commands that wait, first in first out (log 1). -/
  pending    : List Instr
  deriving DecidableEq, Repr

/-- The part after a cold reset (R17). The carrier, the quiet time and the stopped clock's length are DESIGN
CHOICES (log 8), the model's own counter too (log 6). -/
def State.reset : State where
  corridor :=
    { state := .idle, table := PerSlot.fill none, settings := .default, capacity := PerSlot.fill ⟨0, 0⟩,
      startingPlan := none }
  clock := { masterTime := 0, sequence := 0, length := 0 }
  plans := .blank
  flow :=
    { approaches := PerSlot.fill none, mode := .balanced, hold := none, candidate := none, confirmation := 0,
      volumeIn := 0, volumeOut := 0, ratio := 0 }
  engine := { results := none, inFlight := none }
  transition := { records := PerSlot.fill none, adoptAll := false, tentative := none, held := [] }
  monitor := PerSlot.fill .vacant
  directory :=
    { dirs := PerSlot.fill .initial, active := none, pending := none, deadline := 0, orders := [] }
  line :=
    { transmitter := .free, txChars := [], carrier := false, quietFor := none, queue := [], assembly := none,
      unchecked := [], exchange := none, beacon := .none, sweep := none, period := false, windowTime := 0,
      quality := PerSlot.fill ⟨0, false⟩, loopback := none }
  host := { framer := none, queue := [], serving := false, outbox := [], sending := none }
  notices :=
    { corridor := .clear, slots := PerSlot.fill .clear, masks := .allMasked, queue := [] }
  free := 0
  pending := []

/-! ### Why a step can stop

Every fault says that an event was commanded while the part is not in a state in which the spec has that event
(log 3). Each is raised by the meaning of the commands named, and each is SAFE: no next state is claimed. -/

inductive Fault where
  /-- A request command with no request waiting at the head of the request queue (R180). Safe. -/
  | noRequestWaiting
  /-- A request command while the request at the head is already being carried out (R180). Safe. -/
  | requestInService
  /-- A request command while a request of another kind is at the head (R181). Safe. -/
  | otherRequestAtHead
  /-- HOST_GAP_TIMEOUT with no host record incomplete (R179). Safe. -/
  | noRecordIncomplete
  /-- HOST_RECORD_BEGIN while a record is being sent (R182). Safe. -/
  | hostTransmitterBusy
  /-- HOST_RECORD_BEGIN with nothing to send (R182). Safe. -/
  | nothingForHost
  /-- HOST_RECORD_SENT with no record being sent (R180). Safe. -/
  | hostTransmitterIdle
  /-- CYCLE_ZERO or DOWNLOAD_GUARD while the clock is stopped (R13). Safe. -/
  | clockStopped
  /-- An instant of the master cycle commanded before an earlier one that must fall first: the beacon is neither
  sent nor withdrawn, the sweep or a computation is in progress, the download period is open (R15, R36). Safe. -/
  | earlierInstantOutstanding
  /-- An instant of the master cycle that master time has already passed (R15). Safe. -/
  | instantPassed
  /-- BEACON_BEGIN or BEACON_WITHDRAWN with no beacon waiting (R154, R155). Safe. -/
  | noBeaconWaiting
  /-- A frame begun while the transmitter is not Free, or a loopback begun so (R148, R163). Safe. -/
  | transmitterBusy
  /-- A frame begun while carrier is present or a frame is in assembly, so that the line is not quiet (R148). Safe. -/
  | lineNotQuiet
  /-- BEACON_BEGIN before the present master time or past the lateness limit (R155). Safe. -/
  | outsideLateness
  /-- BEACON_SENT with no beacon being sent (R156). Safe. -/
  | noBeaconSending
  /-- POLL_BEGIN or SWEEP_DEADLINE with no sweep in progress, or with no poll left to begin (R157, R159). Safe. -/
  | noPollDue
  /-- POLL_BEGIN or DOWNLOAD_FRAME_BEGIN to a slot that is not defined, which the layout rules exclude (R1). Safe. -/
  | slotUndefined
  /-- DOWNLOAD_FRAME_BEGIN with the download period closed or no download frame queued (R153). Safe. -/
  | noDownloadDue
  /-- EXCHANGE_FRAME_SENT with no POLL or IMAGE LOAD being sent (R151). Safe. -/
  | noExchangeFrame
  /-- REPLY_TIMEOUT with no reply window open (R151). Safe. -/
  | noWindowOpen
  /-- FRAME_TRUNCATED with no frame in assembly, or with carrier present (R149). Safe. -/
  | noFrameToTruncate
  /-- COMPUTATION_COMPLETE with no computation in flight (R53). Safe. -/
  | noComputation
  /-- A loopback command with no test taken, or out of its order (R163, R164). Safe. -/
  | noLoopbackDue
  deriving DecidableEq, Repr

/-- Why an instruction has no meaning. -/
inductive Refusal where
  /-- Raised by `exec`'s arm of an instruction the model does not reach; no arm raises it. Safe. -/
  | notModelled (mnemonic : String)
  deriving DecidableEq, Repr

end Sys2Proof.Machine
end

