-- ==== Sys2Proof/Machine/Slots.lean ====
section
/-! DEFINITION. Slots, plans and directory slots: their numbers and order, and reading and writing one place of a
table. -/

namespace Sys2Proof.Machine

/-! ### Junction slots -/

/-- The twelve slots in ascending order. -/
def Slot.all : List Slot := [.k1, .k2, .k3, .k4, .k5, .k6, .k7, .k8, .k9, .k10, .k11, .k12]

/-- The number of a slot, 1 to 12. -/
def Slot.num : Slot → Nat
  | .k1 => 1
  | .k2 => 2
  | .k3 => 3
  | .k4 => 4
  | .k5 => 5
  | .k6 => 6
  | .k7 => 7
  | .k8 => 8
  | .k9 => 9
  | .k10 => 10
  | .k11 => 11
  | .k12 => 12

/-- The slot of a number, if it is in 1..12. -/
def Slot.ofNum (n : Nat) : Option Slot := Slot.all.find? fun k => k.num == n

/-- The value of slot `k`. -/
def PerSlot.get {α : Type} (v : PerSlot α) : Slot → α
  | .k1 => v.k1
  | .k2 => v.k2
  | .k3 => v.k3
  | .k4 => v.k4
  | .k5 => v.k5
  | .k6 => v.k6
  | .k7 => v.k7
  | .k8 => v.k8
  | .k9 => v.k9
  | .k10 => v.k10
  | .k11 => v.k11
  | .k12 => v.k12

/-- `v` with slot `k` set to `a`. -/
def PerSlot.set {α : Type} (v : PerSlot α) (k : Slot) (a : α) : PerSlot α :=
  match k with
  | .k1 => { v with k1 := a }
  | .k2 => { v with k2 := a }
  | .k3 => { v with k3 := a }
  | .k4 => { v with k4 := a }
  | .k5 => { v with k5 := a }
  | .k6 => { v with k6 := a }
  | .k7 => { v with k7 := a }
  | .k8 => { v with k8 := a }
  | .k9 => { v with k9 := a }
  | .k10 => { v with k10 := a }
  | .k11 => { v with k11 := a }
  | .k12 => { v with k12 := a }

/-- `v` with slot `k` changed by `f`. -/
def PerSlot.modify {α : Type} (v : PerSlot α) (k : Slot) (f : α → α) : PerSlot α := v.set k (f (v.get k))

/-- The table whose value at each slot `k` is `f k`. -/
def PerSlot.of {α : Type} (f : Slot → α) : PerSlot α :=
  ⟨f .k1, f .k2, f .k3, f .k4, f .k5, f .k6, f .k7, f .k8, f .k9, f .k10, f .k11, f .k12⟩

/-- Every value changed by `f`, which may look at the slot. -/
def PerSlot.mapSlot {α β : Type} (v : PerSlot α) (f : Slot → α → β) : PerSlot β := PerSlot.of fun k => f k (v.get k)

/-! ### Plans -/

/-- The sixteen plan numbers in ascending order. -/
def PlanNo.all : List PlanNo := [.p1, .p2, .p3, .p4, .p5, .p6, .p7, .p8, .p9, .p10, .p11, .p12, .p13, .p14, .p15, .p16]

/-- The number of a plan, 1 to 16. -/
def PlanNo.num : PlanNo → Nat
  | .p1 => 1
  | .p2 => 2
  | .p3 => 3
  | .p4 => 4
  | .p5 => 5
  | .p6 => 6
  | .p7 => 7
  | .p8 => 8
  | .p9 => 9
  | .p10 => 10
  | .p11 => 11
  | .p12 => 12
  | .p13 => 13
  | .p14 => 14
  | .p15 => 15
  | .p16 => 16

/-- The plan of a number, if it is in 1..16 (R19). -/
def PlanNo.ofNum (n : Nat) : Option PlanNo := PlanNo.all.find? fun p => p.num == n

/-- The record of plan `p`. -/
def PlanTable.get (v : PlanTable) : PlanNo → PlanRecord
  | .p1 => v.p1
  | .p2 => v.p2
  | .p3 => v.p3
  | .p4 => v.p4
  | .p5 => v.p5
  | .p6 => v.p6
  | .p7 => v.p7
  | .p8 => v.p8
  | .p9 => v.p9
  | .p10 => v.p10
  | .p11 => v.p11
  | .p12 => v.p12
  | .p13 => v.p13
  | .p14 => v.p14
  | .p15 => v.p15
  | .p16 => v.p16

/-- The table with the record of plan `p` set. -/
def PlanTable.set (v : PlanTable) (p : PlanNo) (r : PlanRecord) : PlanTable :=
  match p with
  | .p1 => { v with p1 := r }
  | .p2 => { v with p2 := r }
  | .p3 => { v with p3 := r }
  | .p4 => { v with p4 := r }
  | .p5 => { v with p5 := r }
  | .p6 => { v with p6 := r }
  | .p7 => { v with p7 := r }
  | .p8 => { v with p8 := r }
  | .p9 => { v with p9 := r }
  | .p10 => { v with p10 := r }
  | .p11 => { v with p11 := r }
  | .p12 => { v with p12 := r }
  | .p13 => { v with p13 := r }
  | .p14 => { v with p14 := r }
  | .p15 => { v with p15 := r }
  | .p16 => { v with p16 := r }

/-! ### Directory slots -/

/-- The four directory slots in ascending order. -/
def DirSlot.all : List DirSlot := [.d0, .d1, .d2, .d3]

/-- The number of a directory slot, 0 to 3. -/
def DirSlot.num : DirSlot → Nat
  | .d0 => 0
  | .d1 => 1
  | .d2 => 2
  | .d3 => 3

/-- The directory slot of a number, if it is in 0..3. -/
def DirSlot.ofNum (n : Nat) : Option DirSlot := DirSlot.all.find? fun d => d.num == n

/-- The other slot of the same pair (R123). -/
def DirSlot.sibling : DirSlot → DirSlot
  | .d0 => .d1
  | .d1 => .d0
  | .d2 => .d3
  | .d3 => .d2

/-- The content of a directory slot. -/
def Directory.get (v : Directory) : DirSlot → SlotContent
  | .d0 => v.d0
  | .d1 => v.d1
  | .d2 => v.d2
  | .d3 => v.d3

/-- The directory with one slot's content set; the replacement bits are not changed. -/
def Directory.set (v : Directory) (d : DirSlot) (c : SlotContent) : Directory :=
  match d with
  | .d0 => { v with d0 := c }
  | .d1 => { v with d1 := c }
  | .d2 => { v with d2 := c }
  | .d3 => { v with d3 := c }

/-- Every slot's content changed by `f`; the replacement bits are not changed. -/
def Directory.mapContent (v : Directory) (f : DirSlot → SlotContent → SlotContent) : Directory :=
  { v with d0 := f .d0 v.d0, d1 := f .d1 v.d1, d2 := f .d2 v.d2, d3 := f .d3 v.d3 }

/-! ### The two approaches -/

/-- Both values changed by `f`. -/
def Both.map {α β : Type} (f : α → β) (b : Both α) : Both β := ⟨f b.inbound, f b.outbound⟩

end Sys2Proof.Machine
end

