-- ==== Sys2Proof/Machine/Codes.lean ====
section
/-! DEFINITION. How field values stand in bytes on both lines (R194, R196, R199), the CRC of both lines (R146,
R178), and the two envelopes (R145, R178). -/

namespace Sys2Proof.Machine

/-! ### Quantities (R194) -/

/-- One byte. -/
def u8 (n : Nat) : Byte := BitVec.ofNat 8 n

/-- Two bytes, most significant first. -/
def u16 (n : Nat) : List Byte := [u8 (n / 256), u8 n]

/-- Two bytes in two's complement, most significant first. -/
def i16 (n : Int) : List Byte := u16 (n % 65536).toNat

/-- The quantity of two bytes. -/
def readU16 (hi lo : Byte) : Nat := hi.toNat * 256 + lo.toNat

/-- The signed quantity of two bytes. -/
def readI16 (hi lo : Byte) : Int :=
  let n := readU16 hi lo
  if n < 32768 then n else (n : Int) - 65536

/-- A truth value. -/
def boolByte (b : Bool) : Byte := if b then 1 else 0

/-- A two-byte field that may be none (0xFFFF). -/
def optU16 : Option Nat → List Byte
  | none => [0xFF, 0xFF]
  | some n => u16 n

/-- A plan field; none is 0. -/
def planByte : Option PlanNo → Byte
  | none => 0
  | some p => u8 p.num

/-! ### Code tables (R199) -/

/-- Corridor state. -/
def CorridorState.code : CorridorState → Nat
  | .idle => 0 | .starting => 1 | .running => 2 | .stopping => 3

/-- Direction mode. -/
def Mode.code : Mode → Nat
  | .balanced => 0 | .inbound => 1 | .outbound => 2

/-- Direction hold; Auto is 3. -/
def holdCode : Option Mode → Nat
  | none => 3
  | some m => m.code

/-- Step state. -/
def StepState.code : StepState → Nat
  | .vacant => 0 | .startingFree => 1 | .absent => 2 | .seeking => 3 | .confirming => 4 | .inStep => 5
  | .yielded => 6 | .released => 7 | .excluded => 8

/-- Seek state. -/
def SeekState.code : SeekState → Nat
  | .off => 0 | .unmodelled => 1 | .aligned => 2 | .lengthening => 3 | .shortening => 4 | .blocked => 5

/-- Model condition. -/
def Model.code : Model → Nat
  | .none => 0 | .retained _ => 1 | .valid _ => 2

/-- The current offset of a model. -/
def Model.offset : Model → Option Nat
  | .none => Option.none
  | .retained o => some o
  | .valid o => some o

/-- Directory slot state, with the stale-on-arrival mark in bit 7. -/
def SlotContent.code : SlotContent → Nat
  | .empty => 0
  | .loading _ mark _ => if mark then 0x81 else 1
  | .valid _ => 2
  | .stale _ => 3

/-- The plan a directory slot names; Empty names none. -/
def SlotContent.plan : SlotContent → Option PlanNo
  | .empty => none
  | .loading p _ _ => some p
  | .valid p => some p
  | .stale p => some p

/-- Slip-window outcome. -/
def WindowOutcome.code : WindowOutcome → Nat
  | .matched => 0 | .slip => 1 | .miss => 2

/-- Local mode. -/
def LocalMode.code : LocalMode → Nat
  | .coordinated => 0 | .free => 1 | .manual => 2 | .flash => 3

/-- The local mode of a code, if it is one of the four. -/
def LocalMode.ofCode (n : Nat) : Option LocalMode :=
  [LocalMode.coordinated, .free, .manual, .flash].find? fun m => m.code == n

/-- The last local mode; DEDUCED (log 11): none is 0xFF, as a one-byte state field (R194). -/
def localModeByte : Option LocalMode → Byte
  | none => 0xFF
  | some m => u8 m.code

/-- Exclusion cause. -/
def ExclusionCause.code : ExclusionCause → Nat
  | .none => 0 | .follow => 1 | .plan => 2

/-- STEP_CHANGE cause, 1 to 9 in the order of R112. -/
def StepCause.code : StepCause → Nat
  | .matched => 1 | .mismatch => 2 | .relock => 3 | .miss => 4 | .report => 5 | .localMode => 6 | .order => 7
  | .commit => 8 | .plan => 9

/-- Last sweep outcome. -/
def SweepOutcome.code : SweepOutcome → Nat
  | .none => 0 | .answered => 1 | .missed => 2

/-- Replacement bits. -/
def Directory.bits (d : Directory) : Nat :=
  (if d.top then 1 else 0) + (if d.bitA then 2 else 0) + (if d.bitB then 4 else 0)

/-- SLIP mismatch kind. -/
def Mismatch.code : Mismatch → Nat
  | .offset => 0 | .slot => 1 | .mode => 2

/-- HOST_FRAME_ERROR fault. -/
def HostFault.code : HostFault → Nat
  | .length => 0 | .gap => 1 | .crc => 2 | .refusalOverflow => 3

/-- Notice kind (R190). -/
def NoticeKind.code : NoticeKind → Nat
  | .corridorState => 1 | .planCommitted => 2 | .planExclusion => 3 | .directionChanged => 4 | .beaconSkipped => 5
  | .sweepOverrun => 6 | .transitionBlocked => 7 | .hostFrameError => 8 | .noticeOverflow => 9 | .stepChange => 10
  | .slip => 11 | .realigned => 12 | .spillback => 13 | .detectorFault => 14 | .lineQuality => 15
  | .downloadFailed => 16 | .cycleSummary => 17

/-- The notice kinds in code order. -/
def NoticeKind.all : List NoticeKind :=
  [.corridorState, .planCommitted, .planExclusion, .directionChanged, .beaconSkipped, .sweepOverrun,
   .transitionBlocked, .hostFrameError, .noticeOverflow, .stepChange, .slip, .realigned, .spillback,
   .detectorFault, .lineQuality, .downloadFailed, .cycleSummary]

/-- The notice kind of a code, if it is in 1..17. -/
def NoticeKind.ofCode (n : Nat) : Option NoticeKind := NoticeKind.all.find? fun k => k.code == n

/-- The kind that a kind data belongs to. -/
def KindData.kind : KindData → NoticeKind
  | .corridorState .. => .corridorState
  | .planCommitted .. => .planCommitted
  | .planExclusion .. => .planExclusion
  | .directionChanged .. => .directionChanged
  | .beaconSkipped .. => .beaconSkipped
  | .sweepOverrun .. => .sweepOverrun
  | .transitionBlocked .. => .transitionBlocked
  | .hostFrameError .. => .hostFrameError
  | .stepChange .. => .stepChange
  | .slip .. => .slip
  | .realigned .. => .realigned
  | .spillback .. => .spillback
  | .detectorFault .. => .detectorFault
  | .lineQuality .. => .lineQuality
  | .downloadFailed .. => .downloadFailed
  | .cycleSummary .. => .cycleSummary

/-- A slot list: a count, then the slots (R196). -/
def slotList (ks : List Slot) : List Byte := u8 ks.length :: ks.map fun k => u8 k.num

/-- The kind data of a notice in bytes (R196). DEDUCED (log 10): REALIGNED's retained offset takes two bytes, as
every offset does (R194). -/
def KindData.bytes : KindData → List Byte
  | .corridorState old new => [u8 old.code, u8 new.code]
  | .planCommitted previous new byDeadline lacking =>
    [planByte previous, u8 new.num, boolByte byDeadline, u8 lacking]
  | .planExclusion slots => slotList slots
  | .directionChanged old new byHold ratio => [u8 old.code, u8 new.code, boolByte byHold, u8 ratio]
  | .beaconSkipped sequence replyAwaited => [u8 sequence, boolByte replyAwaited]
  | .sweepOverrun sequence first missed => [u8 sequence, u8 first.num, u8 missed]
  | .transitionBlocked slots => slotList slots
  | .hostFrameError fault => [u8 fault.code]
  | .stepChange old new cause => [u8 old.code, u8 new.code, u8 cause.code]
  | .slip error kind slips => i16 error ++ [u8 kind.code, u8 slips]
  | .realigned retained measured error => u16 retained ++ u16 measured ++ i16 error
  | .spillback inbound outbound => [u8 ((if inbound then 1 else 0) + (if outbound then 2 else 0))]
  | .detectorFault inAdvance inStop outAdvance outStop =>
    [u8 ((if inAdvance then 1 else 0) + (if inStop then 2 else 0) + (if outAdvance then 4 else 0)
      + (if outStop then 8 else 0))]
  | .lineQuality count threshold => u16 count ++ [u8 threshold]
  | .downloadFailed plan slot attempts timedOut =>
    [u8 plan.num, u8 slot.num, u8 attempts, boolByte timedOut]
  | .cycleSummary sequence mode ratio designed current counted =>
    [u8 sequence, u8 mode.code, u8 ratio] ++ u16 designed.inbound ++ u16 designed.outbound
      ++ u16 current.inbound ++ u16 current.outbound ++ [u8 counted]

/-! ### The CRC of both lines (R146, R178) -/

/-- One bit of the division by x^16 + x^12 + x^5 + 1, the register shifted left. -/
def crcShift (r : BitVec 16) : BitVec 16 := if r.msb then (r <<< 1) ^^^ 0x1021 else r <<< 1

/-- One byte, most significant bit first. -/
def crcByte (r : BitVec 16) (b : Byte) : BitVec 16 :=
  crcShift <| crcShift <| crcShift <| crcShift <| crcShift <| crcShift <| crcShift <| crcShift <|
    r ^^^ ((b.setWidth 16) <<< 8)

/-- The check value of a byte string: the register starts at 0xFFFF, with no final inversion (R146). -/
def crc16 (bs : List Byte) : BitVec 16 := bs.foldl crcByte 0xFFFF

/-- The check value in bytes, high byte first. -/
def crcBytes (bs : List Byte) : List Byte := u16 (crc16 bs).toNat

/-! ### Corridor characters and frames (R144, R145) -/

/-- Whether the number of ones among the eight data bits is odd. -/
def oddOnes (b : Byte) : Bool :=
  (b.getLsbD 0 ^^ b.getLsbD 1) ^^ (b.getLsbD 2 ^^ b.getLsbD 3) ^^ (b.getLsbD 4 ^^ b.getLsbD 5)
    ^^ (b.getLsbD 6 ^^ b.getLsbD 7)

/-- The character the FC-12 sends for a byte: odd parity over data and parity bit, stop bit at mark (R144). -/
def sendChar (b : Byte) : LineChar := { data := b, parity := !oddOnes b, stop := true }

/-- A character is good when its stop bit is at mark and its parity is odd (R144). -/
def goodChar (c : LineChar) : Bool := c.stop && (oddOnes c.data ^^ c.parity)

/-- The characters of a corridor frame after its start character: address, kind, length, body and CRC (R145). -/
def frameChars (address kind : Nat) (body : List Byte) : List Byte :=
  let covered := u8 address :: u8 kind :: u8 body.length :: body
  covered ++ crcBytes covered

/-- A whole corridor frame on the line: preamble, start, and the rest (R145). -/
def lineFrame (address kind : Nat) (body : List Byte) : List LineChar :=
  ([0xFF, 0xFF, 0xFF, 0x5A] ++ frameChars address kind body).map sendChar

/-- Frame kinds (R145). -/
def kindBeacon : Nat := 0x01
/-- POLL. -/
def kindPoll : Nat := 0x02
/-- IMAGE LOAD. -/
def kindImageLoad : Nat := 0x03
/-- TEST. -/
def kindTest : Nat := 0x0F
/-- CYCLE REPORT. -/
def kindCycleReport : Nat := 0x82
/-- IMAGE ACK. -/
def kindImageAck : Nat := 0x83

/-- The body of a BEACON with lateness `late` written in (R154, R200). -/
def Beacon.body (b : Beacon) (late : Nat) : List Byte :=
  [u8 b.sequence] ++ u16 b.cycle ++ [planByte b.plan, u8 late, u8 b.entries.length]
    ++ b.entries.flatMap fun e =>
      [u8 e.address, u8 ((match e.command with | .run => 0x80 | .free => 0) + e.slot.num)] ++ u16 e.length

/-- The body of an IMAGE LOAD (R200). -/
def ImageLoad.body (f : ImageLoad) : List Byte :=
  [u8 f.target.num, u8 f.plan.num] ++ u16 f.content.cycle ++ u16 f.content.green
    ++ [u8 f.content.image.length] ++ f.content.image

/-! ### Host records (R178) -/

/-- A whole host record on the link: sync, length, kind, tag, body and CRC (R178). -/
def hostRecord (kind tag : Byte) (body : List Byte) : List Byte :=
  let covered := u8 (body.length + 2) :: kind :: tag :: body
  0xA5 :: covered ++ crcBytes covered

/-- The body of a notice, with its backlog written in: the layout of R196, which is also what R191 lists. The active and
the pending plan of R143 stand in the notice's stamp, and no byte carries them (DEDUCED, log 40). -/
def Notice.body (n : Notice) (backlog : Nat) : List Byte :=
  let data := n.data.bytes
  [u8 n.data.kind.code, (match n.slot with | none => 0 | some k => u8 k.num), u8 n.stamp.sequence, u8 backlog,
   boolByte n.again, u8 data.length] ++ data

end Sys2Proof.Machine
end

