-- ==== Sys2Proof/Machine/Flags.lean ====
section
/-! DEFINITION. The Notice Unit: how an event or a condition rises its latch, offers a notice, and overflows the
notice queue (10.5, R189 to R192). -/

namespace Sys2Proof.Machine

/-! ### Latches (10.5) -/

/-- An event rises its latch: latched, counted up to 255, its kind data stored (10.5). -/
def EventLatch.rise (l : EventLatch) (data : Option KindData) : EventLatch :=
  { latched := true, count := min 255 (l.count + 1), data := data }

/-- A condition's current value is sent: it rises from false to true, falls without changing the latched value,
and does nothing when it has not changed (10.5). -/
def ConditionLatch.send (l : ConditionLatch) (on : Bool) (data : KindData) : ConditionLatch :=
  if on then
    if l.current then l else { latched := true, current := true, data := some data }
  else { l with current := false }

/-- Whether sending the value is a rise. -/
def ConditionLatch.rises (l : ConditionLatch) (on : Bool) : Bool := on && !l.current

/-- STATUS clears every event latch (R189). -/
def EventLatch.read (_ : EventLatch) : EventLatch := .clear

/-- STATUS clears a condition latch whose current value is false (R189). -/
def ConditionLatch.read (l : ConditionLatch) : ConditionLatch := if l.current then l else .clear

/-- Rises the corridor event latch that the kind data belongs to. -/
def CorridorLatches.rise (c : CorridorLatches) (d : KindData) : CorridorLatches :=
  match d.kind with
  | .corridorState => { c with corridorState := c.corridorState.rise d }
  | .planCommitted => { c with planCommitted := c.planCommitted.rise d }
  | .planExclusion => { c with planExclusion := c.planExclusion.rise d }
  | .directionChanged => { c with directionChanged := c.directionChanged.rise d }
  | .beaconSkipped => { c with beaconSkipped := c.beaconSkipped.rise d }
  | .sweepOverrun => { c with sweepOverrun := c.sweepOverrun.rise d }
  | .hostFrameError => { c with hostFrameError := c.hostFrameError.rise d }
  | .transitionBlocked | .noticeOverflow | .stepChange | .slip | .realigned | .spillback | .detectorFault
  | .lineQuality | .downloadFailed | .cycleSummary => c

/-- Rises the event latch of a slot that the kind data belongs to. -/
def SlotLatches.rise (c : SlotLatches) (d : KindData) : SlotLatches :=
  match d.kind with
  | .stepChange => { c with stepChange := c.stepChange.rise d }
  | .slip => { c with slip := c.slip.rise d }
  | .realigned => { c with realigned := c.realigned.rise d }
  | .downloadFailed => { c with downloadFailed := c.downloadFailed.rise d }
  | .corridorState | .planCommitted | .planExclusion | .directionChanged | .beaconSkipped | .sweepOverrun
  | .transitionBlocked | .hostFrameError | .noticeOverflow | .spillback | .detectorFault | .lineQuality
  | .cycleSummary => c

/-- The per-slot condition kinds (10.5). -/
inductive SlotCondition where
  | spillback | detectorFault | lineQuality
  deriving DecidableEq, Repr

/-- The latch of a per-slot condition kind. -/
def SlotLatches.condition (c : SlotLatches) : SlotCondition → ConditionLatch
  | .spillback => c.spillback
  | .detectorFault => c.detectorFault
  | .lineQuality => c.lineQuality

/-- The latches with one condition latch replaced. -/
def SlotLatches.setCondition (c : SlotLatches) (k : SlotCondition) (l : ConditionLatch) : SlotLatches :=
  match k with
  | .spillback => { c with spillback := l }
  | .detectorFault => { c with detectorFault := l }
  | .lineQuality => { c with lineQuality := l }

/-! ### Masks (R190) -/

/-- Whether a kind is unmasked. NOTICE_OVERFLOW has no mask and is never queued (R190). -/
def Masks.unmasked (m : Masks) : NoticeKind → Bool
  | .corridorState => m.corridorState
  | .planCommitted => m.planCommitted
  | .planExclusion => m.planExclusion
  | .directionChanged => m.directionChanged
  | .beaconSkipped => m.beaconSkipped
  | .sweepOverrun => m.sweepOverrun
  | .transitionBlocked => m.transitionBlocked
  | .hostFrameError => m.hostFrameError
  | .noticeOverflow => false
  | .stepChange => m.stepChange
  | .slip => m.slip
  | .realigned => m.realigned
  | .spillback => m.spillback
  | .detectorFault => m.detectorFault
  | .lineQuality => m.lineQuality
  | .downloadFailed => m.downloadFailed
  | .cycleSummary => m.cycleSummary

/-- The masks with one kind set. -/
def Masks.set (m : Masks) (k : NoticeKind) (on : Bool) : Masks :=
  match k with
  | .corridorState => { m with corridorState := on }
  | .planCommitted => { m with planCommitted := on }
  | .planExclusion => { m with planExclusion := on }
  | .directionChanged => { m with directionChanged := on }
  | .beaconSkipped => { m with beaconSkipped := on }
  | .sweepOverrun => { m with sweepOverrun := on }
  | .transitionBlocked => { m with transitionBlocked := on }
  | .hostFrameError => { m with hostFrameError := on }
  | .noticeOverflow => m
  | .stepChange => { m with stepChange := on }
  | .slip => { m with slip := on }
  | .realigned => { m with realigned := on }
  | .spillback => { m with spillback := on }
  | .detectorFault => { m with detectorFault := on }
  | .lineQuality => { m with lineQuality := on }
  | .downloadFailed => { m with downloadFailed := on }
  | .cycleSummary => { m with cycleSummary := on }

/-! ### The notice queue (R191, R192) -/

/-- A notice is offered: it joins the queue, or is dropped when the queue holds 32 and NOTICE_OVERFLOW rises
(R191, R192). -/
def NoticeUnit.offer (n : NoticeUnit) (x : Notice) : NoticeUnit :=
  if n.queue.length < Config.noticeQueueSize then { n with queue := n.queue ++ [x] }
  else { n with corridor := { n.corridor with noticeOverflow := n.corridor.noticeOverflow.rise none } }

/-- A notice is offered if its kind is unmasked at that moment (10.5, R192). -/
def NoticeUnit.offerIf (n : NoticeUnit) (x : Notice) : NoticeUnit :=
  if n.masks.unmasked x.data.kind then n.offer x else n

/-! ### What the blocks send -/

/-- What a block reports to the Notice Unit. -/
inductive Signal where
  /-- A corridor event is raised. -/
  | event (d : KindData)
  /-- A per-slot event is raised. -/
  | slotEvent (k : Slot) (d : KindData)
  /-- TRANSITION_BLOCKED's current value: the slots that are Blocked, none of them being false (R93). -/
  | blocked (slots : List Slot)
  /-- A per-slot condition's current value (10.5). -/
  | condition (c : SlotCondition) (k : Slot) (on : Bool) (d : KindData)
  /-- CYCLE_SUMMARY, which has no latch (R191). -/
  | summary (d : KindData)
  deriving DecidableEq, Repr

/-- The Notice Unit takes a report: the latch rises or falls, and each rise offers a notice that carries the
sequence number and the plans of the moment (10.5, R143, R191). -/
def NoticeUnit.signal (n : NoticeUnit) (stamp : NoticeStamp) : Signal → NoticeUnit
  | .event d =>
    { n with corridor := n.corridor.rise d }.offerIf
      { data := d, slot := none, stamp := stamp, again := false }
  | .slotEvent k d =>
    { n with slots := n.slots.modify k fun l => l.rise d }.offerIf
      { data := d, slot := some k, stamp := stamp, again := false }
  | .blocked slots =>
    let on := !slots.isEmpty
    let d := KindData.transitionBlocked slots
    let n' := { n with corridor := { n.corridor with
                  transitionBlocked := n.corridor.transitionBlocked.send on d } }
    if n.corridor.transitionBlocked.rises on then
      n'.offerIf { data := d, slot := none, stamp := stamp, again := false }
    else n'
  | .condition c k on d =>
    let l := (n.slots.get k).condition c
    let n' := { n with slots := n.slots.modify k fun x => x.setCondition c (l.send on d) }
    if l.rises on then n'.offerIf { data := d, slot := some k, stamp := stamp, again := false } else n'
  | .summary d => n.offerIf { data := d, slot := none, stamp := stamp, again := false }

/-- What a notice that is offered now takes from the Cycle Clock and the Directory Unit (R143, R191). -/
def State.stamp (s : State) : NoticeStamp :=
  { sequence := s.clock.sequence, active := s.directory.active, pending := s.directory.pending }

/-- The whole part with one report taken. Only the Notice Unit changes. -/
def State.signal (s : State) (g : Signal) : State := { s with notices := s.notices.signal s.stamp g }

/-- Reports taken one after the other. -/
def State.signals (s : State) (gs : List Signal) : State := gs.foldl State.signal s

/-! ### One moment (R191)

Notices that different blocks offer at the same moment join the queue in either order; those of one block keep their
order (log 6). -/

/-- The blocks that offer notices (00, block overview). -/
inductive Block where
  | corridorControl | flowEstimator | progressionEngine | transitionUnit | stepMonitor | directoryUnit
  | lineController | hostLink
  deriving DecidableEq, Repr

/-- Every block that offers notices. -/
def Block.all : List Block :=
  [.corridorControl, .flowEstimator, .progressionEngine, .transitionUnit, .stepMonitor, .directoryUnit,
   .lineController, .hostLink]

/-- The block that raises a kind (10.5, the table of kinds). NOTICE_OVERFLOW is never offered (R190). -/
def NoticeKind.block : NoticeKind → Block
  | .corridorState => .corridorControl
  | .directionChanged | .spillback | .detectorFault => .flowEstimator
  | .cycleSummary => .progressionEngine
  | .transitionBlocked => .transitionUnit
  | .stepChange | .slip | .realigned => .stepMonitor
  | .planCommitted | .planExclusion | .downloadFailed => .directoryUnit
  | .beaconSkipped | .sweepOverrun | .lineQuality => .lineController
  | .hostFrameError | .noticeOverflow => .hostLink

/-- Two lists of offers joined in either order, each keeping its own. The `n`-th choice is the free value
`freeOrder n` (R191, log 6). -/
def interleave {α : Type} : Nat → Nat → List α → List α → List α
  | fuel + 1, n, a :: as, b :: bs =>
    if Config.freeOrder n then a :: interleave fuel (n + 1) as (b :: bs)
    else b :: interleave fuel (n + 1) (a :: as) bs
  | _, _, as, bs => as ++ bs

/-- The offers of one moment, block by block, joined in either order (R191, log 6). -/
def joinBlocks : List Block → Nat → List Notice → List Notice
  | [], _, _ => []
  | b :: rest, n, xs =>
    interleave xs.length n (xs.filter fun x => x.data.kind.block == b) (joinBlocks rest (n + xs.length) xs)

/-- The state with an empty notice queue, in which the offers of one moment are gathered. -/
def State.gather (s : State) : State := { s with notices := { s.notices with queue := [] } }

/-- What happens at one moment: the effect `f`, its offers joining the notice queue with those of different blocks
in either order. Only the Notice Unit and the count of free values differ from `f` itself. No moment offers more
than the 32 notices that the gathering queue takes (R191, R192, log 6). -/
def State.moment (f : State → State) (s : State) : State :=
  let t := f s.gather
  { t with
    free := t.free + Block.all.length * t.notices.queue.length
    notices := (joinBlocks Block.all t.free t.notices.queue).foldl NoticeUnit.offer
      { t.notices with queue := s.notices.queue } }

/-- Every latch as a reset leaves it and the notice queue empty, the masks kept (R18, R186). -/
def NoticeUnit.warmReset (n : NoticeUnit) : NoticeUnit :=
  { n with corridor := .clear, slots := PerSlot.fill .clear, queue := [] }

end Sys2Proof.Machine
end

