-- ==== Sys2Proof/Machine/Operands.lean ====
section
/-! DEFINITION. The argument forms of the requests: how the bytes of a request's body are read (R194, R197), the
settings by their codes (R183, R184), and the items of WRITE PLAN (R24, R197). -/

namespace Sys2Proof.Machine

/-! ### Replies (R181, R195) -/

/-- The result codes (R181). -/
inductive ResultCode where
  | ok | unknownKind | badLength | badValue | wrongState | notDefined | orderViolation | addressInUse
  | planIncomplete | planActive | planPending | notInStep | injectPending | queueFull
  deriving DecidableEq, Repr

/-- The code of a result (R181). -/
def ResultCode.code : ResultCode → Nat
  | .ok => 0 | .unknownKind => 1 | .badLength => 2 | .badValue => 3 | .wrongState => 4 | .notDefined => 5
  | .orderViolation => 6 | .addressInUse => 7 | .planIncomplete => 8 | .planActive => 9 | .planPending => 10
  | .notInStep => 11 | .injectPending => 12 | .queueFull => 13

/-- A reply, less the envelope: its result and the content after the result code (R195). -/
structure Reply where
  result  : ResultCode
  content : List Byte
  deriving DecidableEq, Repr

/-- OK with its content. -/
def Reply.ok (content : List Byte) : Reply := { result := .ok, content := content }

/-- A refusal that carries nothing more (R195). -/
def Reply.refuse (r : ResultCode) : Reply := { result := r, content := [] }

/-- BAD_VALUE naming an item or argument by its number (R181, R195). -/
def Reply.badValue (n : Nat) : Reply := { result := .badValue, content := [u8 n] }

/-- PLAN_INCOMPLETE naming a plan (R195). -/
def Reply.planIncomplete (p : PlanNo) : Reply := { result := .planIncomplete, content := [u8 p.num] }

/-- The body of the reply record (R195). -/
def Reply.body (r : Reply) : List Byte := u8 r.result.code :: r.content

/-- The kind of the reply to a request kind (R181). -/
def replyKind (k : Byte) : Byte := if k.toNat < 0x80 then k + 0x80 else 0xFF

/-- The first position, counted from `n`, of an item that fails `ok`; `ok` also sees the items before it. -/
def firstBad {α : Type} (ok : List α → α → Bool) : Nat → List α → List α → Option Nat
  | _, _, [] => none
  | n, before, x :: xs => if ok before x then firstBad ok (n + 1) (before ++ [x]) xs else some n

/-- The number of the first argument that fails, arguments being numbered from 0 in the order they stand (R181). -/
def firstFalse (checks : List Bool) : Option Nat := firstBad (fun _ b => b) 0 [] checks

/-- The slot argument of a request, a number in 1..12. -/
def slotArg (b : Byte) : Option Slot := Slot.ofNum b.toNat

/-- The plan argument of a request, a number in 1..16. -/
def planArg (b : Byte) : Option PlanNo := PlanNo.ofNum b.toNat

/-- A value in a range, both ends included. -/
def inRange (lo hi n : Nat) : Bool := decide (lo ≤ n) && decide (n ≤ hi)

/-! ### DEFINE JUNCTION (R1, R2, R197) -/

/-- The six fields of a definition as the ten-byte body carries them, after the slot. -/
def readJunctionDef : List Byte → Option (Byte × JunctionDef)
  | [slot, address, p1, p0, lanesIn, lanesOut, i1, i0, o1, o0] =>
    some (slot,
      { address := address.toNat, position := readU16 p1 p0, lanesIn := lanesIn.toNat,
        lanesOut := lanesOut.toNat, lengthIn := readU16 i1 i0, lengthOut := readU16 o1 o0 })
  | _ => none

/-- Whether each field of a definition is in its range, in the order of the body (R1). -/
def JunctionDef.checks (j : JunctionDef) : List Bool :=
  [inRange 1 31 j.address, inRange 0 20000 j.position, inRange 1 4 j.lanesIn, inRange 1 4 j.lanesOut,
   inRange 50 2000 j.lengthIn, inRange 50 2000 j.lengthOut]

/-! ### Settings (R183, R184, R197) -/

/-- The settings, in the order of their codes 1 to 18 (R197). -/
inductive SettingId where
  | tolerance
  | slipWindow
  | confirmCount
  | relock
  | followLimit
  | yieldToLocal
  | lengthenLimit
  | shortenLimit
  | retarget
  | switchDeadline
  | fallback
  | spillOccupancy
  | inboundEntry
  | outboundEntry
  | minimumVolume
  | replyTimeout
  | latenessLimit
  | qualityThreshold
  deriving DecidableEq, Repr

/-- The settings in code order. -/
def SettingId.all : List SettingId :=
  [.tolerance, .slipWindow, .confirmCount, .relock, .followLimit, .yieldToLocal, .lengthenLimit, .shortenLimit, .retarget,
   .switchDeadline, .fallback, .spillOccupancy, .inboundEntry, .outboundEntry, .minimumVolume, .replyTimeout, .latenessLimit, .qualityThreshold]

/-- The code of a setting, 1 to 18 (R197). -/
def SettingId.code : SettingId → Nat
  | .tolerance => 1
  | .slipWindow => 2
  | .confirmCount => 3
  | .relock => 4
  | .followLimit => 5
  | .yieldToLocal => 6
  | .lengthenLimit => 7
  | .shortenLimit => 8
  | .retarget => 9
  | .switchDeadline => 10
  | .fallback => 11
  | .spillOccupancy => 12
  | .inboundEntry => 13
  | .outboundEntry => 14
  | .minimumVolume => 15
  | .replyTimeout => 16
  | .latenessLimit => 17
  | .qualityThreshold => 18

/-- The setting of a code, if it is a known one. -/
def SettingId.ofCode (n : Nat) : Option SettingId := SettingId.all.find? fun i => i.code == n

/-- Whether a value is in the range of a setting (the settings table of R183). -/
def SettingId.inRange : SettingId → Nat → Bool
  | .tolerance, v => Machine.inRange 5 100 v
  | .slipWindow, v => Machine.inRange 4 6 v
  | .confirmCount, v => Machine.inRange 2 3 v
  | .relock, v => Machine.inRange 0 1 v
  | .followLimit, v => Machine.inRange 2 8 v
  | .yieldToLocal, v => Machine.inRange 0 1 v
  | .lengthenLimit, v => Machine.inRange 0 40 v
  | .shortenLimit, v => Machine.inRange 0 20 v
  | .retarget, v => Machine.inRange 0 100 v
  | .switchDeadline, v => Machine.inRange 2 8 v
  | .fallback, v => Machine.inRange 0 16 v
  | .spillOccupancy, v => Machine.inRange 30 95 v
  | .inboundEntry, v => Machine.inRange 17 40 v
  | .outboundEntry, v => Machine.inRange 4 15 v
  | .minimumVolume, v => Machine.inRange 0 500 v
  | .replyTimeout, v => Machine.inRange 100 500 v
  | .latenessLimit, v => Machine.inRange 10 100 v
  | .qualityThreshold, v => Machine.inRange 1 255 v

/-- The value of a setting as READ CORRIDOR reports it: on is 1, a fallback plan of none is 0 (R197, R198). -/
def Settings.value (s : Settings) : SettingId → Nat
  | .tolerance => s.tolerance
  | .slipWindow => s.slipWindow
  | .confirmCount => s.confirmCount
  | .relock => if s.relock then 1 else 0
  | .followLimit => s.followLimit
  | .yieldToLocal => if s.yieldToLocal then 1 else 0
  | .lengthenLimit => s.lengthenLimit
  | .shortenLimit => s.shortenLimit
  | .retarget => s.retarget
  | .switchDeadline => s.switchDeadline
  | .fallback => match s.fallback with | none => 0 | some p => p.num
  | .spillOccupancy => s.spillOccupancy
  | .inboundEntry => s.inboundEntry
  | .outboundEntry => s.outboundEntry
  | .minimumVolume => s.minimumVolume
  | .replyTimeout => s.replyTimeout
  | .latenessLimit => s.latenessLimit
  | .qualityThreshold => s.qualityThreshold

/-- The settings with one value stored (R184). -/
def Settings.store (s : Settings) (i : SettingId) (v : Nat) : Settings :=
  match i with
  | .tolerance => { s with tolerance := v }
  | .slipWindow => { s with slipWindow := v }
  | .confirmCount => { s with confirmCount := v }
  | .relock => { s with relock := v == 1 }
  | .followLimit => { s with followLimit := v }
  | .yieldToLocal => { s with yieldToLocal := v == 1 }
  | .lengthenLimit => { s with lengthenLimit := v }
  | .shortenLimit => { s with shortenLimit := v }
  | .retarget => { s with retarget := v }
  | .switchDeadline => { s with switchDeadline := v }
  | .fallback => { s with fallback := PlanNo.ofNum v }
  | .spillOccupancy => { s with spillOccupancy := v }
  | .inboundEntry => { s with inboundEntry := v }
  | .outboundEntry => { s with outboundEntry := v }
  | .minimumVolume => { s with minimumVolume := v }
  | .replyTimeout => { s with replyTimeout := v }
  | .latenessLimit => { s with latenessLimit := v }
  | .qualityThreshold => { s with qualityThreshold := v }

/-- The settings that may be written in Idle only (the settings table of R183). -/
def SettingId.idleOnly : SettingId → Bool
  | .fallback => true
  | _ => false

/-- The items of SET CORRIDOR: setting code and value; none when the bytes do not account for whole items. -/
def readSettingItems : List Byte → Option (List (Nat × Nat))
  | [] => some []
  | code :: hi :: lo :: rest => (readSettingItems rest).map fun xs => (code.toNat, readU16 hi lo) :: xs
  | _ => none

/-- The items of SET NOTICE MASK: notice kind and mask; none when the bytes do not account for whole items. -/
def readMaskItems : List Byte → Option (List (Nat × Nat))
  | [] => some []
  | kind :: mask :: rest => (readMaskItems rest).map fun xs => (kind.toNat, mask.toNat) :: xs
  | _ => none

/-! ### WRITE PLAN (R24, R26, R197) -/

/-- The two-byte fields of a plan that no slot qualifies (R197, codes 1 and 4 to 11). -/
inductive PlanField where
  | cycle | sIn | sOut | ref | oRef | loss | headway | wIn | wOut
  deriving DecidableEq, Repr

/-- One item of WRITE PLAN as decoded; a slot is still the number that was sent (R24). -/
inductive PlanItem where
  | value (f : PlanField) (v : Nat)
  | green (slot v : Nat)
  | image (slot : Nat) (bytes : List Byte)
  deriving DecidableEq, Repr

/-- The field of a two-byte item's code (R197). -/
def PlanField.ofCode : Nat → Option PlanField
  | 1 => some .cycle
  | 4 => some .sIn
  | 5 => some .sOut
  | 6 => some .ref
  | 7 => some .oRef
  | 8 => some .loss
  | 9 => some .headway
  | 10 => some .wIn
  | 11 => some .wOut
  | _ => none

/-- One item of WRITE PLAN and the bytes after it; none when the code is unknown or the bytes run short (R24). -/
def readPlanItem (code : Byte) (rest : List Byte) : Option (PlanItem × List Byte) :=
  if code.toNat = 2 then
    match rest with
    | slot :: hi :: lo :: rest' => some (.green slot.toNat (readU16 hi lo), rest')
    | _ => none
  else if code.toNat = 3 then
    match rest with
    | slot :: count :: rest' =>
      if count.toNat ≤ rest'.length then
        some (.image slot.toNat (rest'.take count.toNat), rest'.drop count.toNat)
      else none
    | _ => none
  else
    match PlanField.ofCode code.toNat, rest with
    | some f, hi :: lo :: rest' => some (.value f (readU16 hi lo), rest')
    | _, _ => none

/-- The items of WRITE PLAN; none when they do not account exactly for the bytes (R24). `fuel` is at least the
number of bytes, each item taking more than one. -/
def readPlanItems : Nat → List Byte → Option (List PlanItem)
  | _, [] => some []
  | 0, _ :: _ => none
  | fuel + 1, code :: rest =>
    (readPlanItem code rest).bind fun r => (readPlanItems fuel r.2).map fun xs => r.1 :: xs

/-- Whether two items name the same field (R24). -/
def PlanItem.sameField : PlanItem → PlanItem → Bool
  | .value f _, .value g _ => f == g
  | .green j _, .green k _ => j == k
  | .image j _, .image k _ => j == k
  | _, _ => false

/-- Whether the slot an item names, if it names one, is in 1..12 (R24). -/
def PlanItem.slotOk : PlanItem → Bool
  | .value _ _ => true
  | .green k _ => inRange 1 12 k
  | .image k _ => inRange 1 12 k

/-- Whether an item is structural (R20). -/
def PlanItem.structural : PlanItem → Bool
  | .value .cycle _ => true
  | .value _ _ => false
  | .green _ _ => true
  | .image _ _ => true

/-- The C that the items write, if they write one. -/
def writtenCycle (items : List PlanItem) : Option Nat :=
  items.findSome? fun
    | .value .cycle v => some v
    | _ => none

/-- Whether an item's value is in its field's range, with the bound set by the C of the resulting record (R19,
R26). `refOk` says whether a slot may be the reference slot: any slot, or a defined one while the plan is in use
or pending (R26). -/
def PlanItem.inRange (cycle : Option Nat) (refOk : Slot → Bool) : PlanItem → Bool
  | .value .cycle v => Machine.inRange 400 2400 v
  | .value .sIn v => Machine.inRange 30 250 v
  | .value .sOut v => Machine.inRange 30 250 v
  | .value .ref v => (Slot.ofNum v).any refOk
  | .value .oRef v => decide (v < cycle.getD 2400)
  | .value .loss v => Machine.inRange 0 50 v
  | .value .headway v => Machine.inRange 15 40 v
  | .value .wIn v => Machine.inRange 9 16 v
  | .value .wOut v => Machine.inRange 0 7 v
  | .green _ v => decide (50 ≤ v) && decide (v + 100 ≤ cycle.getD 2400)
  | .image _ bytes => decide (bytes.length ≤ 48)

/-- The record with one item's value stored (R28). -/
def PlanRecord.apply (r : PlanRecord) : PlanItem → PlanRecord
  | .value .cycle v => { r with cycle := some v }
  | .value .sIn v => { r with sIn := some v }
  | .value .sOut v => { r with sOut := some v }
  | .value .ref v => { r with ref := Slot.ofNum v }
  | .value .oRef v => { r with oRef := some v }
  | .value .loss v => { r with loss := some v }
  | .value .headway v => { r with headway := some v }
  | .value .wIn v => { r with wIn := some v }
  | .value .wOut v => { r with wOut := some v }
  | .green k v => match Slot.ofNum k with | some k => { r with green := r.green.set k (some v) } | none => r
  | .image k bytes => match Slot.ofNum k with | some k => { r with image := r.image.set k bytes } | none => r

end Sys2Proof.Machine
end

