-- ==== Sys2Proof/Machine/Ops.lean ====
section
/-! DEFINITION. Operations shared by the meanings: replacing one block, reading the layout and the plans, the
circular arithmetic of a cycle, and the request and reply path of the host link. -/

namespace Sys2Proof.Machine

/-- What a command answers. -/
abbrev Result := Host.Outcome State Fault Refusal

/-! ### Replacing one block

No block changes another's state except by a message (00, block overview); each of these changes one block. -/

/-- The state with the block `corridor` replaced. -/
def State.setCorridor (s : State) (b : Corridor) : State := { s with corridor := b }

/-- The state with the block `clock` replaced. -/
def State.setClock (s : State) (b : Clock) : State := { s with clock := b }

/-- The state with the block `plans` replaced. -/
def State.setPlans (s : State) (b : PlanTable) : State := { s with plans := b }

/-- The state with the block `flow` replaced. -/
def State.setFlow (s : State) (b : Flow) : State := { s with flow := b }

/-- The state with the block `engine` replaced. -/
def State.setEngine (s : State) (b : Engine) : State := { s with engine := b }

/-- The state with the block `transition` replaced. -/
def State.setTransition (s : State) (b : Transition) : State := { s with transition := b }

/-- The state with the block `monitor` replaced. -/
def State.setMonitor (s : State) (b : PerSlot StepRecord) : State := { s with monitor := b }

/-- The state with the block `directory` replaced. -/
def State.setDirectory (s : State) (b : DirectoryUnit) : State := { s with directory := b }

/-- The state with the block `line` replaced. -/
def State.setLine (s : State) (b : Line) : State := { s with line := b }

/-- The state with the block `host` replaced. -/
def State.setHost (s : State) (b : HostLink) : State := { s with host := b }

/-- The state with the block `notices` replaced. -/
def State.setNotices (s : State) (b : NoticeUnit) : State := { s with notices := b }

/-! ### The layout (R1) -/

/-- Whether a slot is defined. -/
def State.defined (s : State) (k : Slot) : Bool := (s.corridor.table.get k).isSome

/-- The defined slots in ascending order. -/
def State.definedSlots (s : State) : List Slot := Slot.all.filter s.defined

/-- The nearest defined slot below `k`, with its definition. -/
def nearestBelow (table : PerSlot (Option JunctionDef)) (k : Slot) : Option JunctionDef :=
  (Slot.all.filter fun j => decide (j.num < k.num)).reverse.findSome? table.get

/-- The nearest defined slot above `k`, with its definition. -/
def nearestAbove (table : PerSlot (Option JunctionDef)) (k : Slot) : Option JunctionDef :=
  (Slot.all.filter fun j => decide (k.num < j.num)).findSome? table.get

/-- Storage capacity of a link: seven metres a vehicle a lane, at most 255 (R5). -/
def storage (link lanes : Nat) : Nat := min 255 (link / 7 * lanes)

/-- The storage capacities of slot `k` in the layout: the link to the neighbour, or the approach length at an end
of the arterial (R5). An undefined slot has 0. -/
def storageOf (table : PerSlot (Option JunctionDef)) (k : Slot) : Both Nat :=
  match table.get k with
  | none => ⟨0, 0⟩
  | some j =>
    { inbound := storage
        (match nearestAbove table k with | some outer => outer.position - j.position | none => j.lengthIn) j.lanesIn
      outbound := storage
        (match nearestBelow table k with | some inner => j.position - inner.position | none => j.lengthOut)
        j.lanesOut }

/-! ### Plans (R23, R25) -/

/-- Whether a plan record has no field set (R19). -/
def PlanRecord.isBlank (r : PlanRecord) : Bool := decide (r = PlanRecord.blank)

/-- Whether a plan is complete for the current layout (R23). -/
def State.planComplete (s : State) (p : PlanNo) : Bool :=
  let r := s.plans.get p
  r.cycle.isSome && s.definedSlots.all (fun k => (r.green.get k).isSome) && r.sIn.isSome && r.sOut.isSome
    && r.ref.any s.defined && r.oRef.isSome

/-- The plan the clock runs on: the active plan, or the starting plan that Corridor Control keeps (R13, R167). -/
def State.planInForce (s : State) : Option PlanNo :=
  match s.directory.active with
  | some p => some p
  | none => s.corridor.startingPlan

/-- The cycle length of a plan, if it is set. -/
def State.cycleOf (s : State) (p : PlanNo) : Option Nat := (s.plans.get p).cycle

/-! ### Circular arithmetic (00, "Cycle arithmetic") -/

/-- The non-negative remainder mod C. -/
def modC (c : Nat) (x : Int) : Nat := (x % (c : Int)).toNat

/-- The circular distance between two offsets. -/
def circularDistance (c a b : Nat) : Nat :=
  let a := a % c
  let b := b % c
  let d := if a ≤ b then b - a else a - b
  min d (c - d)

/-- The number that differs from `x` by whole cycles and lies in the range -C < 2y <= C (R43, R102). -/
def centre (c : Nat) (x : Int) : Int :=
  let y := x % (c : Int)
  if 2 * y > (c : Int) then y - c else y

/-! ### Limiting -/

/-- An integer limited to lo..hi. -/
def clampInt (lo hi x : Int) : Int := if x < lo then lo else if hi < x then hi else x

/-! ### The request and reply path (R180 to R182) -/

/-- A reply joins the records waiting for the host transmitter, and its request keeps its place at the head of the
queue until the reply has been sent (R180, R182). -/
def State.answer (s : State) (r : Request) (reply : Reply) : State :=
  s.setHost { s.host with
    serving := true
    outbox := s.host.outbox ++
      [{ source := .reply, kind := replyKind r.kind, tag := r.tag, body := reply.body }] }

/-- The request at the head of the queue, if it may be taken now: no earlier request's reply is still to be sent
(R180). -/
def State.requestToTake (s : State) : Except Fault Request :=
  match s.host.queue with
  | [] => .error .noRequestWaiting
  | r :: _ => if s.host.serving then .error .requestInService else .ok r

/-- A request of kind `kind` is taken from the head of the queue and carried out by its owner; `handle` gives its
reply and the state it leaves (R180, R181). -/
def serve (kind : Nat) (handle : List Byte → State → Reply × State) (s : State) : Result :=
  match s.requestToTake with
  | .error f => .fault f
  | .ok r =>
    if r.kind.toNat = kind then .next ((handle r.body s).2.answer r (handle r.body s).1)
    else .fault .otherRequestAtHead

/-- HOST_FRAME_ERROR is raised with its fault (R179). -/
def State.hostFrameError (s : State) (f : HostFault) : State := s.signal (.event (.hostFrameError f))

end Sys2Proof.Machine
end

