-- ==== Sys2Proof/Machine/HostLink.lean ====
section
/-! DEFINITION. The host link: the receive framer, the request queue and refusal list, the transmitter, and the
requests UNKNOWN_KIND and IDENTIFY (R178 to R183). -/

namespace Sys2Proof.Machine

/-- How many refusals the refusal list holds: those waiting and the one being sent (R180; DEDUCED, log 15). -/
def HostLink.refusals (h : HostLink) : Nat :=
  (h.outbox.filter fun o => o.source == .refusal).length
    + (match h.sending with | some o => if o.source == .refusal then 1 else 0 | none => 0)

/-- A received request joins the queue, or is refused with QUEUE_FULL through the refusal list, or is discarded
when that list is full too (R180). -/
def State.receiveRequest (s : State) (r : Request) : State :=
  if s.host.queue.length < Config.requestQueueSize then s.setHost { s.host with queue := s.host.queue ++ [r] }
  else if s.host.refusals < Config.refusalListSize then
    s.setHost { s.host with outbox := s.host.outbox ++
      [{ source := .refusal, kind := replyKind r.kind, tag := r.tag, body := (Reply.refuse .queueFull).body }] }
  else s.hostFrameError .refusalOverflow

/-- A complete record: length, kind, tag, body and CRC. One whose CRC agrees is a received request (R179). -/
def State.receiveRecord (s : State) (acc : List Byte) : State :=
  let covered := acc.take (acc.length - 2)
  if acc.drop (acc.length - 2) = crcBytes covered then
    match covered with
    | _ :: kind :: tag :: body => s.receiveRequest { kind := kind, tag := tag, body := body }
    | _ => s.hostFrameError .crc
  else s.hostFrameError .crc

/-- One byte reaches the receive framer (R179): hunting for 0xA5, then the length, then that many bytes and two
CRC bytes. -/
def State.hostByte (s : State) (b : Byte) : State :=
  match s.host.framer with
  | none => if b = 0xA5 then s.setHost { s.host with framer := some [] } else s
  | some [] =>
    if inRange 2 242 b.toNat then s.setHost { s.host with framer := some [b] }
    else (s.setHost { s.host with framer := none }).hostFrameError .length
  | some (len :: rest) =>
    let acc := len :: rest ++ [b]
    if acc.length = len.toNat + 3 then (s.setHost { s.host with framer := none }).receiveRecord acc
    else s.setHost { s.host with framer := some acc }

/-- HOST_RECORD_RECEIVED: the bytes that arrive reach the framer one by one (R179; log 4). -/
def execHostRecordReceived (bytes : List Byte) (s : State) : Result := .next (bytes.foldl State.hostByte s)

/-- HOST_GAP_TIMEOUT: the incomplete record is discarded and the framer hunts (R179). -/
def execHostGapTimeout (s : State) : Result :=
  match s.host.framer with
  | none => .fault .noRecordIncomplete
  | some _ => .next ((s.setHost { s.host with framer := none }).hostFrameError .gap)

/-- HOST_RECORD_BEGIN: a waiting reply or refusal goes before any notice; a notice leaves its queue with its
backlog written in, and goes on reporting the plans of its moment (R143, R182, R191). -/
def execHostRecordBegin (s : State) : Result :=
  match s.host.sending with
  | some _ => .fault .hostTransmitterBusy
  | none =>
    match s.host.outbox with
    | o :: rest =>
      .next (s.setHost { s.host with
        outbox := rest, sending := some { source := o.source, wire := hostRecord o.kind o.tag o.body } })
    | [] =>
      match s.notices.queue with
      | [] => .fault .nothingForHost
      | n :: rest =>
        .next ((s.setHost { s.host with
          sending := some { source := .notice n.stamp, wire := hostRecord 0x40 0 (n.body rest.length) } }).setNotices
            { s.notices with queue := rest })

/-- HOST_RECORD_SENT: the transmitter is free; a reply frees its request's place in the queue, and the next
request may be taken (R180, R182). -/
def execHostRecordSent (s : State) : Result :=
  match s.host.sending with
  | none => .fault .hostTransmitterIdle
  | some o =>
    match o.source with
    | .reply => .next (s.setHost { s.host with sending := none, queue := s.host.queue.drop 1, serving := false })
    | .refusal | .notice _ => .next (s.setHost { s.host with sending := none })

/-- Whether a kind is one of the catalogue's, 0x01 to 0x16 (R181). -/
def knownKind (k : Byte) : Bool := inRange 0x01 0x16 k.toNat

/-- UNKNOWN_KIND_REQUEST: answered UNKNOWN_KIND with the kind received (R181, R195). -/
def execUnknownKindRequest (s : State) : Result :=
  match s.requestToTake with
  | .error f => .fault f
  | .ok r =>
    if knownKind r.kind then .fault .otherRequestAtHead
    else .next (s.answer r { result := .unknownKind, content := [r.kind] })

/-- What IDENTIFY reports: family code, revision and capacities (R183, R198). -/
def identity : List Byte :=
  u16 Config.familyCode ++
    [u8 Config.revision, 12, 16, 4, u8 Config.requestQueueSize, u8 Config.transmitQueueSize,
     u8 Config.noticeQueueSize]

/-- A request that carries no arguments (R197): any body is BAD_LENGTH (R181). -/
def noArguments (handle : State → Reply × State) (body : List Byte) (s : State) : Reply × State :=
  match body with
  | [] => handle s
  | _ :: _ => (.refuse .badLength, s)

/-- IDENTIFY (R183). -/
def execIdentify (s : State) : Result := serve 0x01 (noArguments fun s => (.ok identity, s)) s

end Sys2Proof.Machine
end

