-- ==== Sys2Proof/Machine/Transition.lean ====
section
/-! DEFINITION. The Transition Unit: targets, the adjustment of each entry, the tentative copy, resync, and the
beacon it assembles (chapter 5; R165 to R168). -/

namespace Sys2Proof.Machine

/-- The command a step state yields (R98). -/
def StepState.command : StepState → Command
  | .absent | .seeking | .confirming | .inStep => .run
  | .vacant | .startingFree | .yielded | .released | .excluded => .free

/-! ### Limits and direction (R85, R86) -/

/-- The lengthen and shorten limits of one assembly (R85). -/
structure Limits where
  lengthen : Nat
  shorten  : Nat
  deriving DecidableEq, Repr

/-- Lmax and Smax from C and the settings (R85). -/
def limitsOf (c : Nat) (s : Settings) : Limits :=
  { lengthen := c * s.lengthenLimit / 100, shorten := c * s.shortenLimit / 100 }

/-- The least integer not below `a / b`. -/
def ceilDiv (a b : Nat) : Nat := (a + b - 1) / b

/-- Seek state and adjustment for a delay of `d` ds, the first row that applies (R86). A count of cycles is
unbounded when its limit is 0. -/
def steer (c d : Nat) (m : Limits) : SeekState × Int :=
  if d = 0 then (.aligned, 0)
  else if m.lengthen = 0 ∧ m.shorten = 0 then (.blocked, 0)
  else if m.shorten = 0 ∨ (m.lengthen ≠ 0 ∧ ceilDiv d m.lengthen ≤ ceilDiv (c - d) m.shorten) then
    (.lengthening, (min d m.lengthen : Nat))
  else (.shortening, -((min (c - d) m.shorten : Nat) : Int))

/-- The seek state and adjustment of an entry (R84, R86). `held` is a commit that changes C, at which every RUN
entry carries adj 0 and seek state Aligned (R94; log 14). -/
def entrySteer (c : Nat) (m : Limits) (held : Bool) (cmd : Command) (model : Model) (target : Option Nat) :
    SeekState × Int :=
  match cmd with
  | .free => (.off, 0)
  | .run =>
    if held then (.aligned, 0)
    else
      match model, target with
      | .valid o, some t => steer c (modC c ((t : Int) - o)) m
      | .valid _, none => (.aligned, 0)
      | .none, _ => (.unmodelled, 0)
      | .retained _, _ => (.unmodelled, 0)

/-- The model after the assembly of an entry (R81, R84, R87). -/
def entryModel (c : Nat) (cmd : Command) (model : Model) (adj : Int) : Model :=
  match cmd, model with
  | .free, _ => .none
  | .run, .valid o => .valid (modC c (o + adj))
  | .run, .retained o => .retained o
  | .run, .none => .none

/-- The use of a pending skew and the commanded length of an entry (R87, R88). -/
def entrySkew (c : Nat) (m : Limits) (held : Bool) (cmd : Command) (adj : Int) (pending : Option Int) :
    SkewUse × Int :=
  match cmd, pending with
  | .free, none => (.untouched, c)
  | .free, some _ => (.discarded, c)
  | .run, none => (.untouched, c + adj)
  | .run, some a =>
    if held then (.untouched, c + adj)
    else
      let length := clampInt ((c : Int) - m.shorten) ((c : Int) + m.lengthen) (c + adj + a)
      (.applied (length - c - adj), length)

/-- The tentative copy of one slot (R84 to R88); `running` is the directory slot that holds the plan (R166). -/
def assembleCopy (c : Nat) (m : Limits) (held : Bool) (cmd : Command) (running : DirSlot) (r : TransitionRecord) :
    TentativeCopy :=
  let st := entrySteer c m held cmd r.model r.target
  let sk := entrySkew c m held cmd st.2 r.pendingSkew
  { command := cmd
    slot := match cmd with | .run => running | .free => .d0
    seek := st.1
    length := sk.2.toNat
    adj := st.2
    model := entryModel c cmd r.model st.2
    skew := sk.1
    expected := r.model }

/-! ### Sending and withdrawal (R89, R90) -/

/-- A tentative copy becomes the standing record (R88, R89). -/
def TransitionRecord.sent (r : TransitionRecord) (t : TentativeCopy) : TransitionRecord :=
  { r with
    model := t.model
    seek := t.seek
    lastLength := some t.length
    lastAdj := t.adj
    pendingSkew := match t.skew with | .untouched => r.pendingSkew | .applied _ => none | .discarded => none
    lastSkew := match t.skew with | .applied e => e | .untouched => r.lastSkew | .discarded => r.lastSkew }

/-- A message that was held, applied to a record (R81, R88). -/
def TransitionRecord.applyHeld (r : TransitionRecord) : HeldMessage → TransitionRecord
  | .suspendModel =>
    { r with model := match r.model with
        | .valid o => .retained o
        | .retained o => .retained o
        | .none => .none }
  | .dropModel => { r with model := .none }
  | .discardSkew => { r with pendingSkew := none }

/-- The records with one slot's record changed, if it has one. -/
def Transition.modifyRecord (t : Transition) (k : Slot) (f : TransitionRecord → TransitionRecord) : Transition :=
  { t with records := t.records.modify k (Option.map f) }

/-- Held messages are applied, oldest first, and no copy stands any more (R89, R90). -/
def Transition.release (t : Transition) : Transition :=
  let t' := t.held.foldl (fun t x => t.modifyRecord x.1 fun r => r.applyHeld x.2) t
  { t' with tentative := none, held := [] }

/-- Every tentative copy becomes the standing record (R89). -/
def Transition.makeStanding (t : Transition) : Transition :=
  match t.tentative with
  | none => t
  | some n =>
    { t with records := t.records.mapSlot fun k r =>
        match r, n.copies.get k with
        | some r, some c => some (r.sent c)
        | r, _ => r }

/-- The slots whose standing seek state is Blocked (R93), in ascending order, as the kind data lists them (DESIGN CHOICE,
log 47). -/
def Transition.blockedSlots (t : Transition) : List Slot :=
  Slot.all.filter fun k => (t.records.get k).any fun r => r.seek == .blocked

/-- TRANSITION_BLOCKED's value is sent to the Notice Unit (R93). -/
def State.sendBlocked (s : State) : State := s.signal (.blocked s.transition.blockedSlots)

/-! ### Messages of the Step Monitor (R81, R91, R92, R111) -/

/-- What the Step Monitor sends the Transition Unit (R111). -/
inductive StepMessage where
  | resync (measured : Nat)
  | suspendModel
  | dropModel
  deriving DecidableEq, Repr

/-- A resync: Oc becomes (M + adj_last) mod C and the model valid (R91). -/
def TransitionRecord.resync (r : TransitionRecord) (c m : Nat) : TransitionRecord :=
  { r with model := .valid (modC c (m + r.lastAdj)) }

/-- A resync taken while a copy stands sets the copy's Oc to the new standing Oc plus the copy's adj (R92). A FREE
entry's copy keeps no model (R84; log 23). -/
def TentativeCopy.resync (t : TentativeCopy) (c : Nat) (r : TransitionRecord) : TentativeCopy :=
  match t.command, r.model with
  | .run, .valid o => { t with model := .valid (modC c (o + t.adj)) }
  | _, _ => t

/-- A retained offset that is no longer the junction's own (R103, R119; log 13). -/
def Model.disown : Model → Model
  | .retained _ => .none
  | .valid o => .valid o
  | .none => .none

/-- The copy of a junction whose model is dropped while it stands: the handover marks no retained offset for it (R103,
R119; log 13). -/
def TentativeCopy.disown (t : TentativeCopy) : TentativeCopy := { t with expected := t.expected.disown }

/-- The Transition Unit takes a message for slot `k` (R81, R91, R92); one for a slot with no record is not acted
on. -/
def Transition.take (t : Transition) (c : Nat) (k : Slot) : StepMessage → Transition
  | .resync m =>
    match t.records.get k with
    | none => t
    | some r =>
      let r' := r.resync c m
      { t with
        records := t.records.set k (some r')
        tentative := t.tentative.map fun n =>
          { n with copies := n.copies.modify k (Option.map fun x => x.resync c r') } }
  | .suspendModel =>
    match t.tentative with
    | none => t.modifyRecord k fun r => r.applyHeld .suspendModel
    | some _ => { t with held := t.held ++ [(k, .suspendModel)] }
  | .dropModel =>
    match t.tentative with
    | none => t.modifyRecord k fun r => r.applyHeld .dropModel
    | some n =>
      { t with
        tentative := some { n with copies := n.copies.modify k (Option.map TentativeCopy.disown) }
        held := t.held ++ [(k, .dropModel)] }

/-- The message of the Step Monitor, if there is one, reaches the Transition Unit (R111). -/
def State.tellTransition (s : State) (k : Slot) : Option StepMessage → State
  | none => s
  | some m => s.setTransition (s.transition.take s.clock.length k m)

/-- FREE JUNCTION discards a pending skew at once, or, where a tentative copy carries it, at the send or
withdrawal (R88). -/
def Transition.discardSkew (t : Transition) (k : Slot) : Transition :=
  let carried := t.tentative.any fun n =>
    (n.copies.get k).any fun c => match c.skew with | .applied _ => true | .untouched => false | .discarded => false
  if carried then { t with held := t.held ++ [(k, .discardSkew)] }
  else t.modifyRecord k fun r => r.applyHeld .discardSkew

/-! ### Adoption (R82, R83) -/

/-- One slot's target after a completed computation (R82, R83). -/
def TransitionRecord.adopt (r : TransitionRecord) (c threshold : Nat) (all : Bool) (computed : Nat) :
    TransitionRecord :=
  match r.target with
  | none => { r with target := some computed }
  | some t =>
    if all || decide (threshold ≤ circularDistance c computed t) then { r with target := some computed } else r

/-- The offsets of a completed computation are adopted, and adopt-all is cleared (R82, R83). -/
def Transition.adopt (t : Transition) (c threshold : Nat) (offsets : PerSlot (Option Nat)) : Transition :=
  { t with
    adoptAll := false
    records := t.records.mapSlot fun k r =>
      match r, offsets.get k with
      | some r, some o => some (r.adopt c threshold t.adoptAll o)
      | r, _ => r }

/-! ### Commits (R94) -/

/-- A model reduced mod the new C (R94). -/
def Model.reduce (m : Model) (c : Nat) : Model :=
  match m with
  | .none => .none
  | .retained o => .retained (o % c)
  | .valid o => .valid (o % c)

/-- What a commit does to the records (R94). -/
def Transition.commit (t : Transition) (fromStarting changed : Bool) (c : Nat) : Transition :=
  { t with
    adoptAll := true
    records := t.records.mapSlot fun _ r => r.map fun r =>
      if fromStarting then { r with model := .none }
      else if changed then { r with model := r.model.reduce c, target := r.target.map (· % c) }
      else r }

/-! ### Records at START and in Idle (R80) -/

/-- Records for every defined slot, as START creates them (R80). -/
def Transition.create (defined : Slot → Bool) : Transition :=
  { records := PerSlot.of fun k => if defined k then some .initial else none
    adoptAll := false, tentative := none, held := [] }

/-- No records, no tentative copy, adopt-all clear (R80). -/
def Transition.empty : Transition :=
  { records := PerSlot.fill none, adoptAll := false, tentative := none, held := [] }

/-! ### Beacon assembly (R165 to R168) -/

/-- The directory slot of a junction that holds plan `p` Valid (R126). -/
def Directory.holdsValid (d : Directory) (p : PlanNo) : Option DirSlot :=
  DirSlot.all.find? fun x => d.get x == .valid p

/-- A junction's running slot: the directory slot that holds the active plan Valid (R126). -/
def State.runningSlot (s : State) (k : Slot) : Option DirSlot :=
  s.directory.active.bind fun p => (s.directory.dirs.get k).holdsValid p

/-- The command of a slot's entry: FREE for every junction in Stopping, else what the step state yields (R11, R84,
R166). -/
def State.entryCommand (s : State) (k : Slot) : Command :=
  match s.corridor.state with
  | .stopping => .free
  | .idle | .starting | .running => (s.monitor.get k).state.command

/-- The tentative copies of an assembly (R84 to R88). A RUN entry always has a running slot (R166); where a state
no run reaches lacks one, slot 0 stands (log 24). -/
def State.assembleCopies (s : State) (held : Bool) : PerSlot (Option TentativeCopy) :=
  let c := s.clock.length
  let m := limitsOf c s.corridor.settings
  PerSlot.of fun k =>
    if s.defined k then
      (s.transition.records.get k).map
        (assembleCopy c m held (s.entryCommand k) ((s.runningSlot k).getD .d0))
    else none

/-- The beacon entries, one for each defined slot in ascending order (R165). -/
def State.beaconEntries (s : State) (copies : PerSlot (Option TentativeCopy)) : List BeaconEntry :=
  Slot.all.filterMap fun k =>
    match s.corridor.table.get k, copies.get k with
    | some j, some t => some { address := j.address, command := t.command, slot := t.slot, length := t.length }
    | _, _ => none

/-- The beacon is assembled and placed at the head of the transmit queue, with the lateness limit read at this
cycle zero; the tentative copies stand (R87, R154, R165). -/
def State.assembleBeacon (s : State) (held : Bool) : State :=
  let copies := s.assembleCopies held
  let b : Beacon :=
    { sequence := s.clock.sequence, cycle := s.clock.length, plan := s.planInForce,
      entries := s.beaconEntries copies, stopping := s.corridor.state == .stopping }
  (s.setTransition { s.transition with tentative := some { sequence := s.clock.sequence, copies := copies } }).setLine
    { s.line with queue := .beacon b :: s.line.queue, beacon := .waiting s.corridor.settings.latenessLimit }

end Sys2Proof.Machine
end

