-- ==== Sys2Proof/Machine/Monitor.lean ====
section
/-! DEFINITION. The Step Monitor: measurement and matching, the step states on a report and on a miss, commit
outcomes, and the host orders FREE, RESEEK and INJECT SKEW (chapter 6). -/

namespace Sys2Proof.Machine

/-- What the Step Monitor reads of a cycle report (R100, R176). -/
structure StepReport where
  u       : Nat
  running : Nat
  mode    : LocalMode
  deriving DecidableEq, Repr

/-- The outcome of an event for one slot: the record it leaves, what it reports to the Notice Unit in order, and
the message it sends the Transition Unit. -/
structure StepEffect where
  record  : StepRecord
  signals : List Signal
  message : Option StepMessage
  deriving DecidableEq, Repr

/-- The record kept, with nothing said. -/
def StepEffect.keep (r : StepRecord) : StepEffect := { record := r, signals := [], message := none }

/-- The signal of a step-state change, if it is a change (R112). -/
def stepChange (k : Slot) (old new : StepState) (cause : StepCause) : List Signal :=
  if old = new then [] else [.slotEvent k (.stepChange old new cause)]

/-! ### Measurement and matching (R101, R102) -/

/-- The measured offset M = (lateness + U) mod C, by the alignment memory (R101). -/
def measure (m : Memory) (u : Nat) : Nat := modC m.cycle ((m.lateness : Int) + u)

/-- The error of a measured offset against an expected one, moved into -C < 2e <= C (R102). -/
def offsetError (m : Memory) (measured expected : Nat) : Int := centre m.cycle ((measured : Int) - expected)

/-- The first test a judged report fails, or none when it matches (R102). -/
def mismatchOf (tol : Nat) (m : Memory) (e : Int) (x : StepReport) : Option Mismatch :=
  if e.natAbs > tol then some .offset
  else if x.running ≠ m.slot.num then some .slot
  else if x.mode ≠ .coordinated then some .mode
  else none

/-- How a report is taken: unjudged, or judged with its error and its mismatch kind if it mismatches (R102). -/
inductive Judgement where
  | unjudged
  | judged (error : Int) (mismatch : Option Mismatch)
  deriving DecidableEq, Repr

/-- A report is judged when its memory's command is RUN and its expected offset is marked valid (R102). -/
def judge (tol : Nat) (m : Memory) (measured : Nat) (x : StepReport) : Judgement :=
  match m.command, m.expected with
  | .run, .valid o =>
    let e := offsetError m measured o
    .judged e (mismatchOf tol m e x)
  | _, _ => .unjudged

/-! ### The slip window (R106, R109) -/

/-- An outcome joins the window, and the oldest leave until it holds no more than N (R106). -/
def joinWindow (n : Nat) (w : List WindowOutcome) (o : WindowOutcome) : List WindowOutcome :=
  let w' := w ++ [o]
  w'.drop (w'.length - n)

/-- How many slips a window holds. -/
def slips (w : List WindowOutcome) : Nat := (w.filter (· == .slip)).length

/-! ### A report, state by state (R103 to R108) -/

/-- Whether a report's local mode moves the junction to Yielded (R108). -/
def localOverride (s : Settings) (x : StepReport) : Bool :=
  s.yieldToLocal && (x.mode == .manual || x.mode == .flash)

/-- Yielded, with no resync (R108). The local override comes before the report is judged, so it records no error and
leaves the last one (DEDUCED, log 37). -/
def toYielded (k : Slot) (r : StepRecord) : StepEffect :=
  { record := { r with state := .yielded, run := 0 }, signals := stepChange k r.state .yielded .localMode
    message := none }

/-- Absent, report (R103). A memory whose expected offset is retained is compared with the measured offset; one that
RESEEK JUNCTION has since disowned no longer holds a retained offset (R119; log 13). No other report records an error in
Absent, not even one that its memory would have judged, as after a RESEEK JUNCTION of an InStep junction between beacon
and report (R102; DEDUCED, log 45). -/
def reportAbsent (s : Settings) (k : Slot) (r : StepRecord) (m : Memory) (measured : Nat) (x : StepReport) :
    StepEffect :=
  if localOverride s x then toYielded k r
  else if x.mode = .coordinated then
    let change := stepChange k r.state .seeking .report
    match m.expected with
    | .retained o =>
      let e := offsetError m measured o
      { record := { r with state := .seeking, run := 0, error := some e }
        signals := change ++
          (if e.natAbs > s.tolerance then [.slotEvent k (.realigned o measured e)] else [])
        message := some (.resync measured) }
    | .none | .valid _ =>
      { record := { r with state := .seeking, run := 0 }, signals := change, message := some (.resync measured) }
  else .keep r

/-- A follow failure in Seeking or Confirming (R104, R105): Seeking, or Excluded at the follow limit. -/
def followFailure (s : Settings) (k : Slot) (r : StepRecord) (e : Int) (measured : Nat) : StepEffect :=
  let n := r.failures + 1
  if s.followLimit ≤ n then
    { record := { r with state := .excluded, run := 0, failures := n, cause := .follow, error := some e }
      signals := stepChange k r.state .excluded .mismatch, message := some (.resync measured) }
  else
    { record := { r with state := .seeking, run := 0, failures := n, error := some e }
      signals := stepChange k r.state .seeking .mismatch, message := some (.resync measured) }

/-- Seeking, report (R104). -/
def reportSeeking (s : Settings) (k : Slot) (r : StepRecord) (m : Memory) (measured : Nat) (x : StepReport) :
    StepEffect :=
  if localOverride s x then toYielded k r
  else
    match judge s.tolerance m measured x with
    | .unjudged => { record := r, signals := [], message := some (.resync measured) }
    | .judged e none =>
      { record := { r with state := .confirming, run := 1, error := some e }
        signals := stepChange k r.state .confirming .matched, message := some (.resync measured) }
    | .judged e (some _) => followFailure s k r e measured

/-- Confirming, report (R105). -/
def reportConfirming (s : Settings) (k : Slot) (r : StepRecord) (m : Memory) (measured : Nat) (x : StepReport) :
    StepEffect :=
  if localOverride s x then toYielded k r
  else
    match judge s.tolerance m measured x with
    | .unjudged => { record := r, signals := [], message := some (.resync measured) }
    | .judged e none =>
      if s.confirmCount ≤ r.run + 1 then
        { record := { r with state := .inStep, run := r.run + 1, window := [], failures := 0, error := some e }
          signals := stepChange k r.state .inStep .matched, message := some (.resync measured) }
      else
        { record := { r with run := r.run + 1, error := some e }, signals := []
          message := some (.resync measured) }
    | .judged e (some _) => followFailure s k r e measured

/-- InStep, report (R106, R107). -/
def reportInStep (s : Settings) (k : Slot) (r : StepRecord) (m : Memory) (measured : Nat) (x : StepReport) :
    StepEffect :=
  if localOverride s x then toYielded k r
  else
    match judge s.tolerance m measured x with
    | .unjudged => { record := r, signals := [], message := some (.resync measured) }
    | .judged e none =>
      { record := { r with window := joinWindow s.slipWindow r.window .matched, error := some e }
        signals := [], message := some (.resync measured) }
    | .judged e (some kind) =>
      let w := joinWindow s.slipWindow r.window .slip
      let slip := Signal.slotEvent k (.slip e kind (slips w))
      if 2 ≤ slips w ∧ s.relock then
        { record := { r with state := .seeking, run := 0, window := w, error := some e }
          signals := slip :: stepChange k r.state .seeking .relock, message := some (.resync measured) }
      else { record := { r with window := w, error := some e }, signals := [slip], message := none }

/-- Yielded, report (R108). -/
def reportYielded (k : Slot) (r : StepRecord) (x : StepReport) : StepEffect :=
  if x.mode = .coordinated then
    { record := { r with state := .absent }, signals := stepChange k r.state .absent .localMode, message := none }
  else .keep r

/-- A valid report: the common steps of R100, then the step state's own rule (R103 to R108). A slot whose alignment
memory is empty measures nothing; no run delivers a report to one (R99; log 24). -/
def stepReport (s : Settings) (k : Slot) (r : StepRecord) (x : StepReport) : StepEffect :=
  match r.memory with
  | none => .keep { r with sweep := .answered, localMode := some x.mode, misses := 0 }
  | some m =>
    let measured := measure m x.u
    let r := { r with sweep := .answered, localMode := some x.mode, misses := 0, measured := some measured }
    match r.state with
    | .absent => reportAbsent s k r m measured x
    | .seeking => reportSeeking s k r m measured x
    | .confirming => reportConfirming s k r m measured x
    | .inStep => reportInStep s k r m measured x
    | .yielded => reportYielded k r x
    | .vacant | .startingFree | .released | .excluded => .keep r

/-! ### A miss (R109, R110) -/

/-- The third miss makes the junction Absent and suspends its model (R110). -/
def afterMiss (k : Slot) (r : StepRecord) : StepEffect :=
  if r.misses = 3 then
    { record := { r with state := .absent, run := 0 }, signals := stepChange k r.state .absent .miss
      message := some .suspendModel }
  else .keep r

/-- A miss, by step state (R100, R109, R110). -/
def stepMiss (s : Settings) (k : Slot) (r : StepRecord) : StepEffect :=
  let r := { r with sweep := .missed }
  match r.state with
  | .seeking | .confirming => afterMiss k { r with misses := r.misses + 1 }
  | .inStep => afterMiss k { r with misses := r.misses + 1, window := joinWindow s.slipWindow r.window .miss }
  | .absent | .yielded | .released | .excluded | .startingFree | .vacant => .keep r

/-- An effect on slot `k`, less its signals: the record is kept and the message reaches the Transition Unit
(R111). -/
def State.applyStep (s : State) (k : Slot) (e : StepEffect) : State :=
  (s.setMonitor (s.monitor.set k e.record)).tellTransition k e.message

/-- A miss is delivered to the Step Monitor (R158, R159). -/
def State.deliverMiss (s : State) (k : Slot) : State :=
  let e := stepMiss s.corridor.settings k (s.monitor.get k)
  (s.applyStep k e).signals e.signals

/-! ### Commits (R116, R117) and the arrival of the active plan (R118) -/

/-- The state, cause and failure count a commit gives a junction (R116, R117). -/
def StepRecord.commit (r : StepRecord) (holds changed : Bool) : StepRecord :=
  match r.state with
  | .startingFree =>
    if holds then { r with state := .absent } else { r with state := .excluded, cause := .plan }
  | .absent | .seeking =>
    if holds then r else { r with state := .excluded, cause := .plan }
  | .confirming | .inStep =>
    if holds then (if changed then { r with state := .seeking, run := 0 } else r)
    else { r with state := .excluded, cause := .plan }
  | .yielded => if holds then r else { r with state := .excluded, cause := .plan }
  | .excluded =>
    if holds then { r with state := .absent, failures := 0, cause := .none } else { r with cause := .plan }
  | .released | .vacant => r

/-- The commit outcomes of every defined slot, and the STEP_CHANGE each change raises (R112, R116). -/
def State.commitMonitor (s : State) (holds : Slot → Bool) (changed : Bool) : PerSlot StepRecord :=
  s.monitor.mapSlot fun k r => if s.defined k then r.commit (holds k) changed else r

/-- The STEP_CHANGE of each slot whose state has changed, slots ascending (R112). -/
def stepChanges (cause : StepCause) (old new : PerSlot StepRecord) : List Signal :=
  Slot.all.flatMap fun k => stepChange k (old.get k).state (new.get k).state cause

/-- The active plan has become Valid at a junction: one Excluded with cause plan returns to Absent (R118). -/
def State.planArrived (s : State) (k : Slot) : State :=
  let r := s.monitor.get k
  if r.state = .excluded ∧ r.cause = .plan then
    (s.setMonitor (s.monitor.set k { r with state := .absent, cause := .none, failures := 0 })).signals
      (stepChange k r.state .absent .plan)
  else s

/-- Every defined slot takes the initial record, every other is Vacant (R97, R120). -/
def initialMonitor (defined : Slot → Bool) : PerSlot StepRecord :=
  PerSlot.of fun k => if defined k then .initial else .vacant

/-! ### Host orders (R113 to R115) -/

/-- A request that carries a junction slot alone (R197). -/
def slotRequest (handle : Byte → State → Reply × State) (body : List Byte) (s : State) : Reply × State :=
  match body with
  | [slot] => handle slot s
  | _ => (.refuse .badLength, s)

/-- FREE JUNCTION's checks and effect (R114). -/
def freeJunction (slot : Byte) (s : State) : Reply × State :=
  if s.corridor.state = .idle then (.refuse .wrongState, s)
  else
    match slotArg slot with
    | none => (.badValue 0, s)
    | some k =>
      if !s.defined k then (.refuse .notDefined, s)
      else
        let r := s.monitor.get k
        if r.state = .startingFree then (.refuse .wrongState, s)
        else
          (.ok [slot, u8 StepState.released.code],
            ((s.setMonitor (s.monitor.set k { r with state := .released })).setTransition
                (s.transition.discardSkew k)).signals
              (stepChange k r.state .released .order))

/-- FREE JUNCTION (R114). -/
def execFreeJunction (s : State) : Result := serve 0x11 (slotRequest freeJunction) s

/-- The memory of a junction whose model is dropped by RESEEK JUNCTION: no report is compared with a retained offset
any more (R103, R119; log 13). -/
def Memory.disown (m : Memory) : Memory := { m with expected := m.expected.disown }

/-- A junction made Absent by RESEEK JUNCTION (R113). -/
def StepRecord.reseek (r : StepRecord) : StepRecord :=
  { r with
    state := .absent, run := 0, misses := 0, failures := 0, cause := .none, memory := r.memory.map Memory.disown }

/-- RESEEK JUNCTION's checks and effect (R113). -/
def reseekJunction (slot : Byte) (s : State) : Reply × State :=
  if s.corridor.state ≠ .running then (.refuse .wrongState, s)
  else
    match slotArg slot with
    | none => (.badValue 0, s)
    | some k =>
      if !s.defined k then (.refuse .notDefined, s)
      else
        let r := s.monitor.get k
        if r.state = .released ∨ r.state = .excluded ∨ r.state = .yielded ∨ r.state = .inStep then
          if (s.runningSlot k).isSome then
            (.ok [slot, u8 StepState.absent.code],
              ((s.setMonitor (s.monitor.set k r.reseek)).tellTransition k (some .dropModel)).signals
                (stepChange k r.state .absent .order))
          else
            (.ok [slot, u8 StepState.excluded.code],
              (s.setMonitor (s.monitor.set k { r with state := .excluded, cause := .plan })).signals
                (stepChange k r.state .excluded .order))
        else (.refuse .wrongState, s)

/-- RESEEK JUNCTION (R113). -/
def execReseekJunction (s : State) : Result := serve 0x12 (slotRequest reseekJunction) s

/-- The pending skew of a slot, if it has one. -/
def Transition.pendingSkew (t : Transition) (k : Slot) : Option Int := (t.records.get k).bind fun r => r.pendingSkew

/-- INJECT SKEW's checks and effect (R115). -/
def injectSkew (body : List Byte) (s : State) : Reply × State :=
  match body with
  | [slot, hi, lo] =>
    let amount := readI16 hi lo
    match slotArg slot with
    | none => (.badValue 0, s)
    | some k =>
      if amount < -400 ∨ 400 < amount ∨ amount = 0 then (.badValue 1, s)
      else if !s.defined k then (.refuse .notDefined, s)
      else if s.corridor.state ≠ .running ∨ (s.monitor.get k).state ≠ .inStep then (.refuse .notInStep, s)
      else if (s.transition.pendingSkew k).isSome then (.refuse .injectPending, s)
      else
        (.ok [slot, hi, lo],
          s.setTransition (s.transition.modifyRecord k fun r => { r with pendingSkew := some amount }))
  | _ => (.refuse .badLength, s)

/-- INJECT SKEW (R115). -/
def execInjectSkew (s : State) : Result := serve 0x14 injectSkew s

end Sys2Proof.Machine
end

