-- ==== Sys2Proof/Machine/Flow.lean ====
section
/-! DEFINITION. The Flow Estimator: the five steps of a report, spillback and detector faults, the directional
ratio and its confirmation, closing the cycle, and the requests SEED QUEUE and HOLD DIRECTION (chapter 4). -/

namespace Sys2Proof.Machine

/-- What a cycle report carries of one approach, its occupancy clamped (R62, R175). -/
structure ApproachReport where
  arrivals     : Nat
  departures   : Nat
  occupancy    : Nat
  queueCleared : Bool
  advanceFault : Bool
  stopFault    : Bool
  deriving DecidableEq, Repr

/-! ### The five steps of a report (R63 to R68) -/

/-- The departures used, and the held departures after (R63). -/
def Approach.departuresUsed (a : Approach) (x : ApproachReport) : Nat :=
  if x.stopFault then a.heldDepartures else x.departures

/-- The arrivals used (R64). -/
def Approach.arrivalsUsed (a : Approach) (x : ApproachReport) : Nat :=
  if x.advanceFault then a.departuresUsed x else x.arrivals

/-- The occupancy used (R67). -/
def Approach.occupancyUsed (a : Approach) (x : ApproachReport) : Nat :=
  if x.advanceFault then a.heldOccupancy else x.occupancy

/-- The sum q + a - dep of the third step (R65). -/
def Approach.sum (a : Approach) (x : ApproachReport) : Int :=
  (a.queue : Int) + a.arrivalsUsed x - a.departuresUsed x

/-- Steps one to three: the held departures, the queue limited to 0..S, the reached-storage mark (R63 to R65). -/
def Approach.updateQueue (a : Approach) (cap : Nat) (x : ApproachReport) : Approach :=
  { a with
    heldDepartures := a.departuresUsed x
    queue := (clampInt 0 cap (a.sum x)).toNat
    reachedStorage := a.reachedStorage || decide ((cap : Int) ≤ a.sum x) }

/-- Step four: a sound queue-cleared flag (R66). -/
def Approach.clearQueue (a : Approach) (x : ApproachReport) : Approach :=
  if x.queueCleared && !x.stopFault then { a with queue := 0, reachedStorage := false } else a

/-- Step five, the counts (R67). `used` is the occupancy used. -/
def Approach.countOccupancy (a : Approach) (setting used : Nat) : Approach :=
  if setting ≤ used then { a with high := min 2 (a.high + 1), low := 0, heldOccupancy := used }
  else { a with low := min 2 (a.low + 1), high := 0, heldOccupancy := used }

/-- Step five, the decision; while spillback is true q is S (R68). -/
def Approach.decideSpillback (a : Approach) (cap : Nat) : Approach :=
  let sp := if a.high = 2 ∨ a.reachedStorage then true
    else if a.low = 2 ∧ !a.reachedStorage then false
    else a.spillback
  { a with spillback := sp, queue := if sp then cap else a.queue }

/-- A report applied to one approach (R62 to R68), with its fault flags kept (R60). -/
def Approach.report (a : Approach) (cap setting : Nat) (x : ApproachReport) : Approach :=
  let used := a.occupancyUsed x
  { ((((a.updateQueue cap x).clearQueue x).countOccupancy setting used).decideSpillback cap) with
    advanceFault := x.advanceFault, stopFault := x.stopFault }

/-! ### Conditions of a slot (R69, R70) -/

/-- The SPILLBACK value of a slot, with the approaches in spillback as kind data (R69). -/
def spillbackSignal (k : Slot) (b : Both Approach) : Signal :=
  .condition .spillback k (b.inbound.spillback || b.outbound.spillback)
    (.spillback b.inbound.spillback b.outbound.spillback)

/-- The DETECTOR_FAULT value of a slot, with the flags set as kind data (R70). -/
def detectorSignal (k : Slot) (b : Both Approach) : Signal :=
  .condition .detectorFault k
    (b.inbound.advanceFault || b.inbound.stopFault || b.outbound.advanceFault || b.outbound.stopFault)
    (.detectorFault b.inbound.advanceFault b.inbound.stopFault b.outbound.advanceFault b.outbound.stopFault)

/-- Both conditions of every slot become false, at START and on entry to Idle (R69, R70). -/
def clearFlowConditions : List Signal :=
  Slot.all.flatMap fun k =>
    [.condition .spillback k false (.spillback false false),
     .condition .detectorFault k false (.detectorFault false false false false)]

/-- A report applied to a slot's two approach records, its reported arrivals added to the volumes (R62, R73). -/
def Flow.report (f : Flow) (k : Slot) (cap : Both Nat) (setting : Nat) (x : Both ApproachReport) : Flow :=
  match f.approaches.get k with
  | none => f
  | some b =>
    { f with
      approaches := f.approaches.set k
        (some ⟨b.inbound.report cap.inbound setting x.inbound, b.outbound.report cap.outbound setting x.outbound⟩)
      volumeIn := f.volumeIn + (if x.inbound.advanceFault then 0 else x.inbound.arrivals)
      volumeOut := f.volumeOut + (if x.outbound.advanceFault then 0 else x.outbound.arrivals) }

/-- What the Flow Estimator sends the Notice Unit after a report of slot `k` (R69, R70). -/
def Flow.reportSignals (f : Flow) (k : Slot) : List Signal :=
  match f.approaches.get k with
  | none => []
  | some b => [spillbackSignal k b, detectorSignal k b]

/-- An answered report is delivered to the Step Monitor and the Flow Estimator, which act independently and may
offer their notices in either order (R176, R191). -/
def State.deliverReport (s : State) (k : Slot) (x : StepReport) (y : Both ApproachReport) : State :=
  let e := stepReport s.corridor.settings k (s.monitor.get k) x
  let f := s.flow.report k (s.corridor.capacity.get k) s.corridor.settings.spillOccupancy y
  (((s.applyStep k e).setFlow f).signals e.signals).signals (f.reportSignals k)

/-! ### Closing the cycle (R74 to R78) -/

/-- DR from the volume totals (R74). -/
def directionalRatio (vIn vOut : Nat) : Nat := min 255 (16 * vIn / max vOut 1)

/-- The candidate mode, the first row that applies (R75). -/
def candidateMode (s : Settings) (vIn vOut dr : Nat) (mode : Mode) : Mode :=
  if vIn + vOut < s.minimumVolume then mode
  else if s.inboundEntry ≤ dr then .inbound
  else if dr ≤ s.outboundEntry then .outbound
  else .balanced

/-- The confirmation rule applied to a candidate (R76). -/
def Flow.confirm (f : Flow) (candidate : Mode) : Flow :=
  if candidate = f.mode then { f with candidate := none, confirmation := 0 }
  else
    let n := if f.candidate = some candidate then f.confirmation + 1 else 1
    if 3 ≤ n then { f with mode := candidate, candidate := none, confirmation := 0 }
    else { f with candidate := some candidate, confirmation := n }

/-- Steps 1 to 3 of closing the cycle (R78). -/
def Flow.closeCycle (f : Flow) (s : Settings) : Flow :=
  let dr := directionalRatio f.volumeIn f.volumeOut
  let f' := match f.hold with
    | some _ => f
    | none => f.confirm (candidateMode s f.volumeIn f.volumeOut dr f.mode)
  { f' with ratio := dr, volumeIn := 0, volumeOut := 0 }

/-- DIRECTION_CHANGED, if the mode has changed (R76, R77). -/
def directionSignal (old new : Mode) (byHold : Bool) (dr : Nat) : List Signal :=
  if old = new then [] else [.event (.directionChanged old new byHold dr)]

/-- The Flow Estimator closes the cycle at sweep complete (R78). -/
def State.closeFlow (s : State) : State :=
  let f := s.flow.closeCycle s.corridor.settings
  (s.setFlow f).signals (directionSignal s.flow.mode f.mode false f.ratio)

/-! ### START, Idle and resets (R60, R61) -/

/-- The direction record as START and the resets leave it: the held mode where a hold stands, and candidate,
count, totals and DR cleared (R61). -/
def Flow.restart (f : Flow) (approaches : PerSlot (Option (Both Approach))) : Flow :=
  { approaches := approaches, mode := f.hold.getD .balanced, hold := f.hold, candidate := none, confirmation := 0,
    volumeIn := 0, volumeOut := 0, ratio := 0 }

/-- Entry to Idle: the mode is kept, the records are discarded (R12, R61). -/
def Flow.enterIdle (f : Flow) : Flow := { f.restart (PerSlot.fill none) with mode := f.mode }

/-! ### SEED QUEUE (R72) -/

/-- An approach with its estimate seeded: limited to S, or S while in spillback (R72). -/
def Approach.seed (a : Approach) (cap v : Nat) : Approach :=
  { a with queue := if a.spillback then cap else min v cap }

/-- SEED QUEUE's checks and effect (R72). -/
def seedQueue (body : List Byte) (s : State) : Reply × State :=
  match body with
  | [slot, dir, v] =>
    if s.corridor.state ≠ .starting ∧ s.corridor.state ≠ .running then (.refuse .wrongState, s)
    else
      match slotArg slot with
      | none => (.badValue 0, s)
      | some k =>
        if 1 < dir.toNat then (.badValue 1, s)
        else
          match s.defined k, s.flow.approaches.get k with
          | true, some b =>
            let cap := s.corridor.capacity.get k
            let b' : Both Approach :=
              if dir.toNat = 0 then { b with inbound := b.inbound.seed cap.inbound v.toNat }
              else { b with outbound := b.outbound.seed cap.outbound v.toNat }
            (.ok [slot, dir, u8 (if dir.toNat = 0 then b'.inbound.queue else b'.outbound.queue)],
              s.setFlow { s.flow with approaches := s.flow.approaches.set k (some b') })
          | _, _ => (.refuse .notDefined, s)
  | _ => (.refuse .badLength, s)

/-- SEED QUEUE (R72). -/
def execSeedQueue (s : State) : Result := serve 0x13 seedQueue s

/-! ### HOLD DIRECTION (R77) -/

/-- The argument of HOLD DIRECTION: a mode, or Auto (R199). -/
def readHold (n : Nat) : Option (Option Mode) :=
  [some Mode.balanced, some .inbound, some .outbound, none].find? fun h => holdCode h == n

/-- HOLD DIRECTION's check and effect (R77). -/
def holdDirection (body : List Byte) (s : State) : Reply × State :=
  match body with
  | [code] =>
    match readHold code.toNat with
    | none => (.badValue 0, s)
    | some h =>
      let mode := h.getD s.flow.mode
      let f := { s.flow with hold := h, mode := mode, candidate := none, confirmation := 0 }
      (.ok [u8 (holdCode h), u8 mode.code],
        (s.setFlow f).signals (directionSignal s.flow.mode mode true s.flow.ratio))
  | _ => (.refuse .badLength, s)

/-- HOLD DIRECTION (R77). -/
def execHoldDirection (s : State) : Result := serve 0x10 holdDirection s

end Sys2Proof.Machine
end

