-- ==== Sys2Proof/Machine/Progression.lean ====
section
/-! DEFINITION. The Progression Engine: the snapshot, the offset chain, the band walks, completion, and READ
PROGRESSION (chapter 3). -/

namespace Sys2Proof.Machine

/-! ### The snapshot (R37, R38) -/

/-- Whether a step state is counted in a computation (R38, R98). -/
def StepState.counted : StepState → Bool
  | .confirming | .inStep => true
  | .vacant | .startingFree | .absent | .seeking | .yielded | .released | .excluded => false

/-- The offset of a valid model. -/
def Model.validOffset : Model → Option Nat
  | .valid o => some o
  | .retained _ => Option.none
  | .none => Option.none

/-- What the snapshot takes of a slot (R37); none for an undefined slot. -/
def State.snapSlot (s : State) (r : PlanRecord) (k : Slot) : Option SnapSlot :=
  match s.corridor.table.get k, r.green.get k with
  | some j, some g =>
    let b := s.flow.approaches.get k
    let counted := (s.monitor.get k).state.counted
    some
      { position := j.position, green := g
        queueIn := match b with | some b => b.inbound.queue | none => 0
        queueOut := match b with | some b => b.outbound.queue | none => 0
        counted := counted
        offset := if counted then (s.transition.records.get k).bind fun t => t.model.validOffset else none }
  | _, _ => none

/-- The snapshot of a computation that begins now, of the active plan while Running and the starting plan while
Starting (R37). A plan that lacks a field it needs gives none; the plan computed is always complete (R37, log 24). -/
def State.snapshot (s : State) : Option Snapshot :=
  s.planInForce.bind fun p =>
    let r := s.plans.get p
    match r.cycle, r.sIn, r.sOut, r.ref, r.oRef, r.loss, r.headway, r.wIn, r.wOut with
    | some c, some sIn, some sOut, some ref, some oRef, some ls, some h, some wIn, some wOut =>
      some
        { sequence := s.clock.sequence, cycle := c, sIn := sIn, sOut := sOut, ref := ref, oRef := oRef, loss := ls,
          headway := h, wIn := wIn, wOut := wOut, mode := s.flow.mode, ratio := s.flow.ratio,
          slots := PerSlot.of (s.snapSlot r) }
    | _, _, _, _, _, _, _, _, _ => none

/-- The snapshot is handed over at sweep complete; it begins a computation in Starting and Running and is dropped
in Stopping (R36). -/
def State.handOver (s : State) : State :=
  match s.corridor.state with
  | .starting | .running => s.setEngine { s.engine with inFlight := s.snapshot }
  | .idle | .stopping => s

/-! ### Links (R39 to R45) -/

/-- Travel time over `d` metres at `speed`, in ds, rounded to nearest with a half upward (R39). -/
def travelTime (d speed : Nat) : Nat := (200 * d + speed) / (2 * speed)

/-- Clearance of an approach, limited to half its green (R40). -/
def clearance (ls h q green : Nat) : Nat := min (ls + q * h) (green / 2)

/-- The weight W in sixteenths (R44). -/
def Snapshot.weight (n : Snapshot) : Nat :=
  match n.mode with
  | .inbound => n.wIn
  | .outbound => n.wOut
  | .balanced => 8

/-- The ideal outbound difference moved by whole cycles to lie nearest the inbound one (R43). -/
def moveOutbound (c : Nat) (dIn dOut : Int) : Int := dIn + centre c (dOut - dIn)

/-- The blend of the two differences, rounded to nearest with a half away from zero (R45). -/
def blend (w : Nat) (dIn dOut : Int) : Int :=
  let n := (w : Int) * dIn + (16 - (w : Int)) * dOut
  if 0 ≤ n then (2 * n + 16) / 32 else -((2 * (-n) + 16) / 32)

/-- A defined junction in the chain: its clearances and leaving clearances (R40, R41). -/
structure Junction where
  slot     : Slot
  snap     : SnapSlot
  clearIn  : Nat
  clearOut : Nat
  leaveIn  : Nat
  leaveOut : Nat
  deriving DecidableEq, Repr

/-- The defined junctions of a snapshot in ascending slot order. -/
def Snapshot.defined (n : Snapshot) : List (Slot × SnapSlot) :=
  Slot.all.filterMap fun k => (n.slots.get k).map fun x => (k, x)

/-- The junctions with their clearances; the leaving clearance is 0 at the entry junction of each direction, the
outermost for inbound and the innermost for outbound (R41). -/
def Snapshot.junctions (n : Snapshot) : List Junction :=
  let ds := n.defined
  ds.map fun (k, x) =>
    let cIn := clearance n.loss n.headway x.queueIn x.green
    let cOut := clearance n.loss n.headway x.queueOut x.green
    { slot := k, snap := x, clearIn := cIn, clearOut := cOut
      leaveIn := if (ds.getLast?.map Prod.fst) = some k then 0 else cIn
      leaveOut := if (ds.head?.map Prod.fst) = some k then 0 else cOut }

/-- The link's difference, the wanted value of O_b - O_a (R42, R43, R45). -/
def Snapshot.linkDifference (n : Snapshot) (a b : Junction) : Int :=
  let d := b.snap.position - a.snap.position
  let dIn : Int := (a.clearIn : Int) - travelTime d n.sIn - b.leaveIn
  let dOut : Int := (a.leaveOut : Int) + travelTime d n.sOut - b.clearOut
  blend n.weight dIn (moveOutbound n.cycle dIn dOut)

/-! ### The offset chain (R46, R47) -/

/-- A junction placed on the chain: the sum of the link differences, and of the travel times of each direction,
from the innermost defined junction. -/
structure Placed where
  junction : Junction
  sum      : Int
  timeIn   : Nat
  timeOut  : Nat
  deriving DecidableEq, Repr

/-- The junctions outward from `prev`, with the sums over the links crossed. -/
def Snapshot.place (n : Snapshot) (prev : Placed) : List Junction → List Placed
  | [] => []
  | b :: rest =>
    let d := b.snap.position - prev.junction.snap.position
    let next : Placed :=
      { junction := b, sum := prev.sum + n.linkDifference prev.junction b
        timeIn := prev.timeIn + travelTime d n.sIn, timeOut := prev.timeOut + travelTime d n.sOut }
    next :: n.place next rest

/-- Every defined junction placed on the chain. -/
def Snapshot.chain (n : Snapshot) : List Placed :=
  match n.junctions with
  | [] => []
  | a :: rest => let p : Placed := { junction := a, sum := 0, timeIn := 0, timeOut := 0 }; p :: n.place p rest

/-- The sum at the reference junction. -/
def Snapshot.refSum (n : Snapshot) : Int :=
  match n.chain.find? fun p => p.junction.slot == n.ref with
  | some p => p.sum
  | none => 0

/-- The raw offset: O_ref plus the link differences between r and the junction, positive going outward and negative
going inward (R46). -/
def Snapshot.rawOffset (n : Snapshot) (p : Placed) : Int := (n.oRef : Int) + (p.sum - n.refSum)

/-- The computed offset of each defined slot, none for an undefined one (R47). -/
def Snapshot.offsets (n : Snapshot) : PerSlot (Option Nat) :=
  PerSlot.of fun k =>
    (n.chain.find? fun p => p.junction.slot == k).map fun p => modC n.cycle (n.rawOffset p)

/-! ### The band walks (R48 to R52) -/

/-- A visited junction of a walk: where it lies in travel time along the walk, and its offset, clearance in the
walk's direction, and green. -/
structure Visit where
  at_    : Int
  offset : Nat
  clear  : Nat
  green  : Nat
  deriving DecidableEq, Repr

/-- The part of the arriving window [s, e) within the usable part of the green that starts at `g`, if it is not
empty (R50). -/
def Visit.cutAt (v : Visit) (g s e : Int) : Option (Int × Int) :=
  let s' := max s (g + v.clear)
  let e' := min e (g + v.green)
  if s' < e' then some (s', e') else none

/-- The cut of an arriving window: the latest green at or before `s`, then the next one (R50). -/
def Visit.cut (v : Visit) (c : Nat) (s e : Int) : Option (Int × Int) :=
  let g := (v.offset : Int) + (s - v.offset) / (c : Int) * c
  match v.cutAt g s e with
  | some w => some w
  | none => v.cutAt (g + c) s e

/-- The walk from a junction at `at_` with window [s, e) over the junctions still to visit (R49, R50, R51). -/
def walk (c : Nat) (at_ s e : Int) : List Visit → Int
  | [] => e - s
  | v :: rest =>
    match v.cut c (s + (v.at_ - at_)) (e + (v.at_ - at_)) with
    | some w => walk c v.at_ w.1 w.2 rest
    | none => 0

/-- The band over the visited junctions: 0 with fewer than two, else the walk that opens with the first junction's
whole green (R48, R51). -/
def band (c : Nat) : List Visit → Nat
  | v :: w :: rest => (walk c v.at_ v.offset ((v.offset : Int) + v.green) (w :: rest)).toNat
  | _ => 0

/-- The visits of the counted junctions with a set of offsets, inbound in descending and outbound in ascending slot
order (R48, R49, R52). -/
def Snapshot.visits (n : Snapshot) (offset : Placed → Nat) : Both (List Visit) :=
  let counted := n.chain.filter fun p => p.junction.snap.counted
  { inbound := counted.reverse.map fun p =>
      { at_ := -(p.timeIn : Int), offset := offset p, clear := p.junction.clearIn, green := p.junction.snap.green }
    outbound := counted.map fun p =>
      { at_ := p.timeOut, offset := offset p, clear := p.junction.clearOut, green := p.junction.snap.green } }

/-- The bands of both directions with a set of offsets (R51, R52). -/
def Snapshot.bands (n : Snapshot) (offset : Placed → Nat) : Both Nat := (n.visits offset).map (band n.cycle)

/-- The computed offset of a placed junction. -/
def Snapshot.computedAt (n : Snapshot) (p : Placed) : Nat := modC n.cycle (n.rawOffset p)

/-- The current offset of a counted junction, which always has one (R38; log 24). -/
def currentAt (p : Placed) : Nat := p.junction.snap.offset.getD 0

/-- A band's share of the cycle in whole percent (R51). -/
def share (c b : Nat) : Nat := 100 * b / c

/-- The outcome of a computation, which depends on its snapshot alone (R53). -/
def Snapshot.results (n : Snapshot) : Results :=
  let designed := n.bands n.computedAt
  let current := n.bands currentAt
  { sequence := n.sequence, offset := n.offsets, mode := n.mode, ratio := n.ratio, weight := n.weight
    counted := (n.chain.filter fun p => p.junction.snap.counted).length
    designed := designed, current := current
    designedShare := designed.map (share n.cycle), currentShare := current.map (share n.cycle) }

/-- The CYCLE_SUMMARY of a completed computation (R53). -/
def Results.summary (r : Results) : KindData := .cycleSummary r.sequence r.mode r.ratio r.designed r.current r.counted

/-- COMPUTATION_COMPLETE: the results record is replaced whole, the offsets are adopted, CYCLE_SUMMARY is offered
(R53, R82). -/
def execComputationComplete (s : State) : Result :=
  match s.engine.inFlight with
  | none => .fault .noComputation
  | some n =>
    let r := n.results
    .next (((s.setEngine { results := some r, inFlight := none }).setTransition
        (s.transition.adopt n.cycle s.corridor.settings.retarget r.offset)).signal (.summary r.summary))

/-- A commit that changes C reduces every computed offset of the record (R57). -/
def Engine.commit (e : Engine) (changed : Bool) (c : Nat) : Engine :=
  if changed then
    { e with results := e.results.map fun r => { r with offset := r.offset.mapSlot fun _ o => o.map (· % c) } }
  else e

/-! ### READ PROGRESSION (R188, R198) -/

/-- The figures of the results record, every one 0 while Present is false (R59, R188). -/
def resultsContent : Option Results → List Byte
  | none => List.replicate 18 0
  | some r =>
    [1, u8 r.sequence, u8 r.mode.code, u8 r.ratio, u8 r.weight, u8 r.counted]
      ++ u16 r.designed.inbound ++ u16 r.designed.outbound ++ u16 r.current.inbound ++ u16 r.current.outbound
      ++ [u8 r.designedShare.inbound, u8 r.designedShare.outbound, u8 r.currentShare.inbound,
          u8 r.currentShare.outbound]

/-- The computed offset of a slot, as the record holds it (R59). -/
def State.computedOffset (s : State) (k : Slot) : Option Nat := s.engine.results.bind fun r => r.offset.get k

/-- What READ PROGRESSION reports of a slot (R96, R188). -/
def State.progressionSlot (s : State) (k : Slot) : List Byte :=
  let t := s.transition.records.get k
  optU16 (s.computedOffset k) ++ optU16 (t.bind fun t => t.target) ++ optU16 (t.bind fun t => t.model.offset)
    ++ [u8 (match t with | some t => t.model.code | none => 0), u8 (match t with | some t => t.seek.code | none => 0)]

/-- What READ PROGRESSION reports (R188, R198). -/
def State.progressionContent (s : State) : List Byte :=
  resultsContent s.engine.results ++ Slot.all.flatMap s.progressionSlot

/-- READ PROGRESSION: WRONG_STATE in Idle, else the report; nothing changes (R188). -/
def execReadProgression (s : State) : Result :=
  serve 0x15
    (noArguments fun s =>
      if s.corridor.state = .idle then (.refuse .wrongState, s) else (.ok s.progressionContent, s)) s

end Sys2Proof.Machine
end

