-- ==== Sys2Proof/Machine/Directory.lean ====
section
/-! DEFINITION. The Directory Unit: replacement bits, placement, downloads and their outcomes, the plan state, the
commit test and the commit, and the requests SWITCH PLAN and PRELOAD PLAN (chapter 7). -/

namespace Sys2Proof.Machine

/-! ### Replacement bits (R123, R128) -/

/-- A use of a directory slot: the top bit points to the other pair, the slot's own pair bit to its sibling
(R123). -/
def Directory.use (d : Directory) : DirSlot → Directory
  | .d0 => { d with top := true, bitA := true }
  | .d1 => { d with top := true, bitA := false }
  | .d2 => { d with top := false, bitB := true }
  | .d3 => { d with top := false, bitB := false }

/-- The slot that the bit of pair {0, 1} points to. -/
def Directory.pointA (d : Directory) : DirSlot := if d.bitA then .d1 else .d0

/-- The slot that the bit of pair {2, 3} points to. -/
def Directory.pointB (d : Directory) : DirSlot := if d.bitB then .d3 else .d2

/-- The PLRU slot (R123). -/
def Directory.plru (d : Directory) : DirSlot := if d.top then d.pointB else d.pointA

/-- The order in which a victim is sought (R128). -/
def Directory.victims (d : Directory) : List DirSlot :=
  let other := if d.top then d.pointA else d.pointB
  [d.plru, d.plru.sibling, other, other.sibling]

/-! ### What a directory holds -/

/-- The directory slot that holds plan `p` in any state (R127, step 2). -/
def Directory.holds (d : Directory) (p : PlanNo) : Option DirSlot :=
  DirSlot.all.find? fun x => (d.get x).plan == some p

/-- Whether a directory slot is Loading plan `p`. -/
def SlotContent.isLoading (c : SlotContent) (p : PlanNo) : Bool :=
  match c with
  | .loading q _ _ => q == p
  | .empty | .valid _ | .stale _ => false

/-- Whether a directory slot is Stale. -/
def SlotContent.isStale : SlotContent → Bool
  | .stale _ => true
  | .empty | .valid _ | .loading _ _ _ => false

/-- Whether junction `k` lacks plan `p` Valid. -/
def DirectoryUnit.lacks (u : DirectoryUnit) (k : Slot) (p : PlanNo) : Bool := ((u.dirs.get k).holdsValid p).isNone

/-- The content of a slot as prior content; a Loading slot is handled by `State.priorOf`. -/
def Content.toSlot : Content → SlotContent
  | .empty => .empty
  | .valid p => .valid p
  | .stale p => .stale p

/-- The plan a prior content names. -/
def Content.plan : Content → Option PlanNo
  | .empty => none
  | .valid p => some p
  | .stale p => some p

/-! ### Orders (R129) -/

/-- Whether an order is for junction `k` and plan `p`. -/
def Order.isFor (o : Order) (k : Slot) (p : PlanNo) : Bool := o.slot == k && o.plan == p

/-- A new order (R129). -/
def Order.new (k : Slot) (p : PlanNo) : Order :=
  { slot := k, plan := p, stage := .waiting, attempts := 0, target := none, content := none, noRetry := false }

/-- Whether no frame of an order has ever begun: attempts made 1 and stage Queued (R133). -/
def Order.neverSent (o : Order) : Bool := o.attempts == 1 && o.stage == .queued

/-- Whether corridor state is Starting or Running. -/
def State.live (s : State) : Bool := s.corridor.state == .starting || s.corridor.state == .running

/-- Whether plan `p` is needed at junction `k` (R129). -/
def State.needed (s : State) (k : Slot) (p : PlanNo) : Bool :=
  (s.directory.pending == some p && s.live && s.directory.lacks k p)
    || (s.directory.active == some p && s.corridor.state == .running && s.directory.lacks k p)
    || (s.corridor.settings.fallback == some p && s.live && !((s.directory.dirs.get k).d0 == .valid p))

/-- Whether an order for plan `p` at junction `k` stands, or a slot there is Loading it (R129). -/
def DirectoryUnit.ordered (u : DirectoryUnit) (k : Slot) (p : PlanNo) : Bool :=
  u.orders.any (fun o => o.isFor k p) || DirSlot.all.any fun x => ((u.dirs.get k).get x).isLoading p

/-- The plans that can be needed, in the order in which their orders are created: pending, active, fallback (R129
states pending before fallback at START; else DESIGN CHOICE, log 17). -/
def State.neededPlans (s : State) : List PlanNo :=
  s.directory.pending.toList ++ s.directory.active.toList ++ s.corridor.settings.fallback.toList

/-- An order joins the end of the list (R129). -/
def State.addOrder (s : State) (k : Slot) (p : PlanNo) : State :=
  s.setDirectory { s.directory with orders := s.directory.orders ++ [.new k p] }

/-- Orders for plan `p` at every defined junction that `want`s one and has none (R129). -/
def State.createFor (s : State) (want : State → Slot → Bool) (p : PlanNo) : State :=
  s.definedSlots.foldl
    (fun s k => if want s k && !s.directory.ordered k p then s.addOrder k p else s) s

/-- Orders for every needed plan at every defined junction that has none (R129). -/
def State.createOrders (s : State) : State :=
  s.neededPlans.foldl (fun s p => s.createFor (fun s k => s.needed k p) p) s

/-! ### Placement (R127, R128) -/

/-- Whether a directory slot is barred for the placement of plan `p` at junction `k` (R127). -/
def State.barred (s : State) (k : Slot) (p : PlanNo) (x : DirSlot) : Bool :=
  let held := ((s.directory.dirs.get k).get x).plan
  (x == .d0 && s.corridor.settings.fallback.isSome && !(s.corridor.settings.fallback == some p))
    || (held.isSome && held == s.directory.active)
    || (held.isSome && held == s.directory.pending)
    || s.directory.orders.any fun o => o.slot == k && o.stage == .onLine && o.target == some x

/-- The directory slot for plan `p` at junction `k`, if there is one (R127, R128). -/
def State.place (s : State) (k : Slot) (p : PlanNo) : Option DirSlot :=
  if s.corridor.settings.fallback = some p then some .d0
  else
    let d := s.directory.dirs.get k
    let free := fun x => !s.barred k p x
    d.holds p
      <|> DirSlot.all.find? (fun x => d.get x == .empty && free x)
      <|> DirSlot.all.find? (fun x => (d.get x).isStale && free x)
      <|> d.victims.find? free

/-! ### Removing an order (R128, R133) -/

/-- The transmit queue less the frame of an order. -/
def Line.withdrawLoad (l : Line) (k : Slot) (p : PlanNo) : Line :=
  { l with queue := l.queue.filter fun
      | .beacon _ => true
      | .load f => !(f.slot == k && f.plan == p) }

/-- An order leaves the list. -/
def DirectoryUnit.removeOrder (u : DirectoryUnit) (k : Slot) (p : PlanNo) : DirectoryUnit :=
  { u with orders := u.orders.filter fun o => !o.isFor k p }

/-- One directory slot of one junction set. -/
def DirectoryUnit.setSlot (u : DirectoryUnit) (k : Slot) (x : DirSlot) (c : SlotContent) : DirectoryUnit :=
  { u with dirs := u.dirs.modify k fun d => d.set x c }

/-- The prior content of a download that is placed over a directory slot's content (R128): over a given-up
download, that download's own prior content if its frame has never been sent, else Empty. -/
def DirectoryUnit.priorOf (u : DirectoryUnit) (k : Slot) (x : DirSlot) : Content :=
  match (u.dirs.get k).get x with
  | .empty => .empty
  | .valid p => .valid p
  | .stale p => .stale p
  | .loading q _ prior => if u.orders.any (fun o => o.isFor k q && o.neverSent) then prior else .empty

/-- A victim in Loading is given up: its order is removed and its frame withdrawn (R128). -/
def State.giveUp (s : State) (k : Slot) (p : PlanNo) (x : DirSlot) : State :=
  match (s.directory.dirs.get k).get x with
  | .loading q _ _ =>
    if q = p then s else (s.setDirectory (s.directory.removeOrder k q)).setLine (s.line.withdrawLoad k q)
  | .empty | .valid _ | .stale _ => s

/-- What the target slot of a withdrawn download becomes (R133). -/
def Directory.afterWithdrawal (d : Directory) (x : DirSlot) (neverSent : Bool) (prior : Content) : SlotContent :=
  if neverSent then
    match prior.plan with
    | none => .empty
    | some q =>
      if DirSlot.all.any fun y => y != x && (d.get y).plan == some q then .empty else prior.toSlot
  else .empty

/-- A download that is not On line is withdrawn (R133). -/
def State.withdraw (s : State) (o : Order) : State :=
  let u := s.directory.removeOrder o.slot o.plan
  let d := u.dirs.get o.slot
  let u' := match o.target with
    | none => u
    | some x =>
      match d.get x with
      | .loading q _ prior =>
        if q = o.plan then u.setSlot o.slot x (d.afterWithdrawal x o.neverSent prior) else u
      | .empty | .valid _ | .stale _ => u
  (s.setDirectory u').setLine (s.line.withdrawLoad o.slot o.plan)

/-- Orders that `which` picks are withdrawn, in list order (log 16), and one that is On line has its no-retry flag
set (R133). -/
def State.withdrawAll (s : State) (which : Order → Bool) : State :=
  let s' := s.directory.orders.foldl
    (fun s o => if which o && !(o.stage == .onLine) then s.withdraw o else s) s
  s'.setDirectory { s'.directory with
    orders := s'.directory.orders.map fun o => if which o then { o with noRetry := true } else o }

/-! ### Queuing frames (R130) -/

/-- The frame content of an order, from the Plan Table as it stands; a field that the plan leaves unset is a free
value (log 33). -/
def State.loadContent (s : State) (k : Slot) (p : PlanNo) : LoadContent :=
  let r := s.plans.get p
  { cycle := r.cycle.getD (Config.freeUnsetField s.free)
    green := (r.green.get k).getD (Config.freeUnsetField (s.free + 1))
    image := r.image.get k }

/-- How many free values `loadContent` draws. -/
def State.loadDraws (s : State) (k : Slot) (p : PlanNo) : Nat :=
  if (s.plans.get p).cycle.isSome && ((s.plans.get p).green.get k).isSome then 0 else 2

/-- An order's frame joins the transmit queue: it is Queued, with one attempt more (R130). -/
def State.queueFrame (s : State) (o : Order) (x : DirSlot) (c : LoadContent) : State :=
  (s.setDirectory { s.directory with
      orders := s.directory.orders.map fun y =>
        if y.isFor o.slot o.plan then
          { y with stage := .queued, attempts := o.attempts + 1, target := some x, content := some c }
        else y }).setLine
    { s.line with
      queue := s.line.queue ++ [.load { slot := o.slot, plan := o.plan, target := x, content := c }] }

/-- The first queuing of an order: the plan is placed, the content fixed and the target set Loading (R130). -/
def State.firstQueuing (s : State) (o : Order) (x : DirSlot) : State :=
  let prior := s.directory.priorOf o.slot x
  let c := s.loadContent o.slot o.plan
  let s' := s.giveUp o.slot o.plan x
  { s'.setDirectory (s'.directory.setSlot o.slot x (.loading o.plan false prior)) with
      free := s.free + s.loadDraws o.slot o.plan }.queueFrame o x c

/-- The directory slot of an order's next frame: its target, or at the first queuing the place of its plan. None when
every slot is barred, or when the slot is the running slot, into which placement and queuing are refused (R130). -/
def State.loadTarget (s : State) (o : Order) : Option DirSlot :=
  (o.target <|> s.place o.slot o.plan).filter fun x => s.runningSlot o.slot != some x

/-- The first Waiting order is taken: its frame is queued, or, when a plan that is not needed finds no slot that may be
loaded, the order is removed (R130, R137; log 43). None when the period is closed, the queue holds 4 frames, or
nothing can be queued. A queue that takes no frame above 4 never refuses one as full (R130, R152). -/
def State.feedOnce (s : State) : Option State :=
  if !s.line.period || decide (Config.downloadFeedSize ≤ s.line.queue.length) then none
  else
    match s.directory.orders.find? fun o => o.stage == .waiting with
    | none => none
    | some o =>
      match s.loadTarget o with
      | some x =>
        match o.target, o.content with
        | some _, some c => some (s.queueFrame o x c)
        | _, _ => some (s.firstQueuing o x)
      | none =>
        if s.needed o.slot o.plan then none
        else some (s.setDirectory (s.directory.removeOrder o.slot o.plan))

/-- Frames are queued while the rule of R130 allows it. Each round takes one order out of Waiting. -/
def State.feedLoop : Nat → State → State
  | 0, s => s
  | fuel + 1, s =>
    match s.feedOnce with
    | none => s
    | some s' => s'.feedLoop fuel

/-- The Directory Unit queues what frames it may (R130). -/
def State.feed (s : State) : State := s.feedLoop s.directory.orders.length

/-! ### Outcomes (R131, R132, R134) -/

/-- The outcome of a download exchange. -/
inductive LoadOutcome where
  | accepted | refused | timedOut
  deriving DecidableEq, Repr

/-- An accepted download: the target becomes Valid, or Stale if marked, and counts as used; the order is removed
(R131). It changes no slot when the target no longer holds the order's download (R134). -/
def State.completeLoad (s : State) (o : Order) (x : DirSlot) : State :=
  let u := s.directory.removeOrder o.slot o.plan
  match (u.dirs.get o.slot).get x with
  | .loading q mark _ =>
    if q = o.plan then
      let s' := s.setDirectory { u with dirs := u.dirs.modify o.slot fun d =>
        (d.set x (if mark then .stale o.plan else .valid o.plan)).use x }
      if s.corridor.state = .running ∧ s.directory.active = some o.plan ∧ !mark then s'.planArrived o.slot else s'
    else s.setDirectory u
  | .empty | .valid _ | .stale _ => s.setDirectory u

/-- A refusal or timeout: a retry, or a failed download (R132, R134). -/
def State.failLoad (s : State) (o : Order) (x : DirSlot) (timedOut : Bool) : State :=
  let u := s.directory.removeOrder o.slot o.plan
  if ((s.directory.dirs.get o.slot).get x).isLoading o.plan then
    if o.attempts < 3 ∧ !o.noRetry then
      s.setDirectory { s.directory with
        orders := s.directory.orders.map fun y =>
          if y.isFor o.slot o.plan then { y with stage := .waiting } else y }
    else
      (s.setDirectory (u.setSlot o.slot x .empty)).signal
        (.slotEvent o.slot (.downloadFailed o.plan x o.attempts timedOut))
  else s.setDirectory u

/-- The outcome of the exchange of the order On line for junction `k` reaches the Directory Unit, and a retry that
falls due may be queued at once (R130 to R132). -/
def State.resolveLoad (s : State) (k : Slot) (r : LoadOutcome) : State :=
  match s.directory.orders.find? fun o => o.slot == k && o.stage == .onLine with
  | none => s
  | some o =>
    match o.target with
    | none => s.setDirectory (s.directory.removeOrder o.slot o.plan)
    | some x =>
      match r with
      | .accepted => (s.completeLoad o x).feed
      | .refused => (s.failLoad o x false).feed
      | .timedOut => (s.failLoad o x true).feed

/-! ### Messages and settings that reach the directories (R124, R125) -/

/-- Structure-changed for plan `p`, in one directory slot (R125): a Loading slot's mark follows the plan that is loaded,
and its prior content the plan that stood there, which may be the same one. -/
def SlotContent.structureChanged (p : PlanNo) : SlotContent → SlotContent
  | .valid q => if q = p then .stale q else .valid q
  | .loading q mark prior => .loading q (mark || q == p) (if prior = .valid p then .stale p else prior)
  | .stale q => .stale q
  | .empty => .empty

/-- Structure-changed for plan `p`, in every directory (R125). -/
def DirectoryUnit.structureChanged (u : DirectoryUnit) (p : PlanNo) : DirectoryUnit :=
  { u with dirs := u.dirs.mapSlot fun _ d => d.mapContent fun _ c => c.structureChanged p }

/-- One directory brought into line with a fallback setting (R124). -/
def Directory.align (d : Directory) : Option PlanNo → Directory
  | none => d
  | some f => d.mapContent fun x c =>
      if x = .d0 then (if c.plan = some f then c else .empty)
      else if c.plan = some f then .empty else c

/-- Every directory brought into line with a fallback setting (R124). -/
def DirectoryUnit.align (u : DirectoryUnit) (f : Option PlanNo) : DirectoryUnit :=
  { u with dirs := u.dirs.mapSlot fun _ d => d.align f }

/-- A directory after a warm reset: Valid becomes Stale, Loading becomes Empty, the bits stay (R18, R122). -/
def Directory.warmReset (d : Directory) : Directory :=
  d.mapContent fun _ c =>
    match c with
    | .valid p => .stale p
    | .loading _ _ _ => .empty
    | .stale p => .stale p
    | .empty => .empty

/-! ### The commit (R121, R138 to R141) -/

/-- Whether a slot is in the commit set (R121, R138). -/
def State.inCommitSet (s : State) (k : Slot) : Bool :=
  s.defined k &&
    match (s.monitor.get k).state with
    | .absent | .seeking | .confirming | .inStep => s.corridor.state == .running
    | .startingFree => s.corridor.state == .starting && (s.monitor.get k).sweep == .answered
    | .vacant | .yielded | .released | .excluded => false

/-- The commit set (R121). -/
def State.commitSet (s : State) : List Slot := Slot.all.filter s.inCommitSet

/-- Whether the first condition of R138 holds for plan `p`. -/
def State.commitComplete (s : State) (p : PlanNo) : Bool :=
  s.commitSet.all (fun k => !s.directory.lacks k p) &&
    match s.corridor.state with
    | .running => true
    | .starting => !s.commitSet.isEmpty
    | .idle | .stopping => false

/-- The junctions that a commit by deadline excludes: those that would have been commanded RUN (R140). The list of
PLAN_EXCLUSION's kind data is in ascending slot order (DESIGN CHOICE, log 47). -/
def State.excludedByPlan (s : State) (p : PlanNo) : List Slot :=
  Slot.all.filter fun k =>
    s.defined k && s.directory.lacks k p &&
      match s.corridor.state with
      | .starting => (s.monitor.get k).state == .startingFree
      | .running => s.inCommitSet k
      | .idle | .stopping => false

/-- The directories after a commit of `p`: each junction's running slot counts as used (R139). -/
def DirectoryUnit.useRunning (u : DirectoryUnit) (defined : Slot → Bool) (p : PlanNo) : PerSlot Directory :=
  u.dirs.mapSlot fun k d =>
    if defined k then
      match d.holdsValid p with
      | some x => d.use x
      | none => d
    else d

/-- The number of defined junctions that lack plan `p` Valid. -/
def State.lackCount (s : State) (p : PlanNo) : Nat :=
  (s.definedSlots.filter fun k => s.directory.lacks k p).length

/-- The reports of a commit of plan `p`: those of the Directory Unit, Corridor Control and the Step Monitor, in this
order each (R112, R139, R140). -/
def State.commitSignals (s : State) (p : PlanNo) (complete : Bool) (monitor : PerSlot StepRecord) : List Signal :=
  let excluded := s.excludedByPlan p
  Signal.event (.planCommitted s.directory.active p (!complete) (s.lackCount p))
    :: (if complete || excluded.isEmpty then [] else [.event (.planExclusion excluded)])
    ++ (if s.corridor.state = .starting then [.event (.corridorState .starting .running)] else [])
    ++ stepChanges .commit s.monitor monitor

/-- What a commit of plan `p` does to each block that it informs, before the beacon is assembled (R139). -/
def State.commitBlocks (s : State) (p : PlanNo) (complete : Bool) : State :=
  let fromStarting := s.corridor.state == .starting
  let c := (s.cycleOf p).getD s.clock.length
  let changed := decide (c ≠ s.clock.length)
  let monitor := s.commitMonitor (fun k => !s.directory.lacks k p) changed
  (((((((s.setDirectory { s.directory with
        dirs := s.directory.useRunning s.defined p, active := some p, pending := none, deadline := 0 }).setMonitor
      monitor).setTransition (s.transition.commit fromStarting changed c)).setEngine
      (s.engine.commit changed c)).setClock { s.clock with length := c }).setCorridor
      { s.corridor with state := if fromStarting then .running else s.corridor.state }).signals
    (s.commitSignals p complete monitor)).createOrders

/-- The commit of plan `p`, at one moment (R139, R191). -/
def State.commitPlan (s : State) (p : PlanNo) (complete : Bool) : State := s.moment fun s => s.commitBlocks p complete

/-- The commit test of a cycle zero: the deadline count is decreased and the plan is committed if it may be (R138).
No plan is pending in Idle and Stopping (R10, R126). -/
def State.commitTest (s : State) : State :=
  match s.directory.pending with
  | none => s
  | some p =>
    let s' := s.setDirectory { s.directory with deadline := s.directory.deadline - 1 }
    if s'.commitComplete p then s'.commitPlan p true
    else if s'.directory.deadline = 0 then s'.commitPlan p false
    else s'

/-! ### SWITCH PLAN (R135, R136) and PRELOAD PLAN (R137) -/

/-- A request that carries a plan number alone (R197). -/
def planRequest (handle : Byte → State → Reply × State) (body : List Byte) (s : State) : Reply × State :=
  match body with
  | [p] => handle p s
  | _ => (.refuse .badLength, s)

/-- The junctions at which the active plan has become Valid since directories stood as in `old`: the Step Monitor is told
of each, slots ascending (R118). -/
def State.tellArrivals (s : State) (old : DirectoryUnit) : State :=
  match s.directory.active with
  | none => s
  | some p => Slot.all.foldl (fun t k => if old.lacks k p && !s.directory.lacks k p then t.planArrived k else t) s

/-- The cancel of a pending switch (R136). A withdrawal may bring the active plan back Valid as prior content (R133), which
the Step Monitor is told (R118; log 39). -/
def State.cancelSwitch (s : State) : Reply × State :=
  match s.directory.pending with
  | none => (.ok [0], s)
  | some p =>
    let s' := s.setDirectory { s.directory with pending := none, deadline := 0 }
    (.ok [u8 p.num],
      if s.corridor.settings.fallback = some p then s'
      else ((s'.withdrawAll fun o => o.plan == p).tellArrivals s.directory).feed)

/-- SWITCH PLAN's checks and effect (R135, R136). -/
def switchPlan (n : Byte) (s : State) : Reply × State :=
  if s.corridor.state ≠ .running then (.refuse .wrongState, s)
  else if n = 0 then s.cancelSwitch
  else
    match planArg n with
    | none => (.badValue 0, s)
    | some p =>
      if !s.planComplete p then (.planIncomplete p, s)
      else if s.directory.active = some p then (.refuse .planActive, s)
      else if s.directory.pending.isSome then (.refuse .planPending, s)
      else
        let d := s.corridor.settings.switchDeadline
        (.ok [n, u8 d, u8 (s.lackCount p)],
          ((s.setDirectory { s.directory with pending := some p, deadline := d }).createOrders).feed)

/-- SWITCH PLAN (R135). -/
def execSwitchPlan (s : State) : Result := serve 0x0E (planRequest switchPlan) s

/-- Whether a junction is to have an order for a preload of plan `p` (R137). -/
def State.preloadWanted (s : State) (p : PlanNo) (k : Slot) : Bool :=
  s.directory.lacks k p
    && DirSlot.all.all fun x =>
      match (s.directory.dirs.get k).get x with
      | .loading q _ _ =>
        s.directory.active == some q || s.directory.pending == some q || s.corridor.settings.fallback == some q
      | .empty | .valid _ | .stale _ => true

/-- PRELOAD PLAN's checks and effect (R137). -/
def preloadPlan (n : Byte) (s : State) : Reply × State :=
  match planArg n with
  | none => (.badValue 0, s)
  | some p =>
    if !s.live || !s.planComplete p then (.ok [n, 0], s)
    else
      let s' := s.createFor (fun s k => s.preloadWanted p k) p
      (.ok [n, u8 (s'.directory.orders.length - s.directory.orders.length)], s'.feed)

/-- PRELOAD PLAN (R137). -/
def execPreloadPlan (s : State) : Result := serve 0x0F (planRequest preloadPlan) s

end Sys2Proof.Machine
end

