-- ==== Sys2Proof/Machine/Layout.lean ====
section
/-! DEFINITION. The junction table: DEFINE JUNCTION and REMOVE JUNCTION (R1 to R4). -/

namespace Sys2Proof.Machine

/-- Whether no other defined slot has the address (R2). -/
def addressFree (table : PerSlot (Option JunctionDef)) (k : Slot) (address : Nat) : Bool :=
  Slot.all.all fun j => j == k || (table.get j).all fun d => d.address != address

/-- Whether a position lies strictly between those of the nearest defined slots below and above (R2). -/
def positionFits (table : PerSlot (Option JunctionDef)) (k : Slot) (position : Nat) : Bool :=
  (nearestBelow table k).all (fun d => decide (d.position < position))
    && (nearestAbove table k).all fun d => decide (position < d.position)

/-- A slot's directory, line-quality count and LINE_QUALITY value start anew (R3, R4, R147). -/
def State.freshLine (s : State) (k : Slot) : State :=
  ((s.setDirectory { s.directory with dirs := s.directory.dirs.set k .initial }).setLine
    { s.line with quality := s.line.quality.set k ⟨0, false⟩ }).signal
      (.condition .lineQuality k false (.lineQuality 0 s.corridor.settings.qualityThreshold))

/-- What an accepted definition does (R3): a new junction starts its records anew, one at a new address its
directory and count, one at the same address keeps them. -/
def State.storeJunction (s : State) (k : Slot) (j : JunctionDef) : State :=
  let s' := s.setCorridor { s.corridor with table := s.corridor.table.set k (some j) }
  match s.corridor.table.get k with
  | none => (s'.freshLine k).setMonitor (s.monitor.set k .initial)
  | some old => if old.address = j.address then s' else s'.freshLine k

/-- DEFINE JUNCTION's checks and effect (R2, R3). -/
def defineJunction (body : List Byte) (s : State) : Reply × State :=
  match readJunctionDef body with
  | none => (.refuse .badLength, s)
  | some (slot, j) =>
    if s.corridor.state ≠ .idle then (.refuse .wrongState, s)
    else
      match slotArg slot, firstFalse ((slotArg slot).isSome :: j.checks) with
      | some k, none =>
        if !addressFree s.corridor.table k j.address then (.refuse .addressInUse, s)
        else if !positionFits s.corridor.table k j.position then (.refuse .orderViolation, s)
        else (.ok [], s.storeJunction k j)
      | _, n => (.badValue (n.getD 0), s)

/-- DEFINE JUNCTION (R2). -/
def execDefineJunction (s : State) : Result := serve 0x05 defineJunction s

/-- What an accepted removal does (R4). -/
def State.dropJunction (s : State) (k : Slot) : State :=
  ((s.setCorridor { s.corridor with
      table := s.corridor.table.set k none, capacity := s.corridor.capacity.set k ⟨0, 0⟩ }).freshLine k).setMonitor
    (s.monitor.set k .vacant)

/-- REMOVE JUNCTION's checks and effect (R4). -/
def removeJunction (slot : Byte) (s : State) : Reply × State :=
  if s.corridor.state ≠ .idle then (.refuse .wrongState, s)
  else
    match slotArg slot with
    | none => (.badValue 0, s)
    | some k => if !s.defined k then (.refuse .notDefined, s) else (.ok [], s.dropJunction k)

/-- REMOVE JUNCTION (R4). -/
def execRemoveJunction (s : State) : Result := serve 0x06 (slotRequest removeJunction) s

end Sys2Proof.Machine
end

