-- ==== Sys2Proof/Machine/Plans.lean ====
section
/-! DEFINITION. The Plan Table's requests: WRITE PLAN (R24 to R30) and READ PLAN (R33, R34). -/

namespace Sys2Proof.Machine

/-! ### The checks of WRITE PLAN (R25 to R27) -/

/-- Whether a write is structural (R20). -/
def structuralWrite (erase : Bool) (items : List PlanItem) : Bool := erase || items.any PlanItem.structural

/-- Whether a plan is in use (R25). -/
def State.inUse (s : State) (p : PlanNo) : Bool :=
  s.directory.active == some p
    || (s.corridor.settings.fallback == some p && !(s.corridor.state == .idle))
    || (s.corridor.startingPlan == some p && s.corridor.state == .stopping && s.directory.active.isNone)

/-- The record that a write starts from (R27). -/
def State.writeBase (s : State) (p : PlanNo) (erase : Bool) : PlanRecord :=
  if erase then .blank else s.plans.get p

/-- The record with every item applied (R27). -/
def PlanRecord.applyAll (r : PlanRecord) (items : List PlanItem) : PlanRecord := items.foldl PlanRecord.apply r

/-- The four defaults, for fields that the write leaves unset (R21). -/
def PlanRecord.withDefaults (r : PlanRecord) : PlanRecord :=
  { r with
    loss := some (r.loss.getD 20), headway := some (r.headway.getD 20), wIn := some (r.wIn.getD 13)
    wOut := some (r.wOut.getD 3) }

/-- Whether the green of slot `k` breaks the first relation of R27. -/
def PlanRecord.greenFails (r : PlanRecord) (k : Slot) : Bool :=
  match r.cycle, r.green.get k with
  | some c, some g => decide (c < g + 100)
  | _, _ => false

/-- Whether the reference offset breaks the second relation of R27. -/
def PlanRecord.offsetFails (r : PlanRecord) : Bool :=
  match r.cycle, r.oRef with
  | some c, some o => decide (c ≤ o)
  | _, _ => false

/-- Whether a record breaks a relation of R27. -/
def PlanRecord.fails (r : PlanRecord) : Bool := r.offsetFails || Slot.all.any r.greenFails

/-- Whether an item sets a field that takes part in a failing relation (R27). The first relation is over C and every
green that is set. -/
def PlanItem.inFailing (r : PlanRecord) : PlanItem → Bool
  | .value .cycle _ => r.fails
  | .value .oRef _ => r.offsetFails
  | .value _ _ => false
  | .green _ _ => Slot.all.any r.greenFails
  | .image _ _ => false

/-- The number of the item that R27 names, or none when both relations hold. -/
def crossFieldFault (r : PlanRecord) (items : List PlanItem) : Option Nat :=
  if r.fails then some ((firstBad (fun _ i => !i.inFailing r) 1 [] items).getD 0) else none

/-- The number that BAD_VALUE names, in check 1 of R25. -/
def leadingFault (p erase : Byte) (count : Nat) : Option Nat :=
  if (planArg p).isNone then some 0 else if 1 < erase.toNat then some (count + 1) else none

/-- The refusal of a write to plan `p`, or none when every check from the second on passes (R25). -/
def State.writeFault (s : State) (p : PlanNo) (erase : Bool) (items : List PlanItem) : Option Reply :=
  let structural := structuralWrite erase items
  let result := (s.writeBase p erase).applyAll items
  let cycle := match writtenCycle items with
    | some c => some c
    | none => (s.writeBase p erase).cycle
  let refOk := fun k => !(s.inUse p || s.directory.pending == some p) || s.defined k
  match firstBad (fun before i => i.slotOk && !before.any i.sameField) 1 [] items with
  | some n => some (.badValue n)
  | none =>
    if structural && s.inUse p then some (.refuse .planActive)
    else if structural && s.directory.pending == some p then some (.refuse .planPending)
    else
      match firstBad (fun _ i => i.inRange cycle refOk) 1 [] items with
      | some n => some (.badValue n)
      | none => (crossFieldFault result items).map Reply.badValue

/-- The record that an accepted write stores: erase, items, then the defaults of a first write (R21, R28). An image of
length 0 is absent, so a write of nothing else leaves a blank record blank, without defaults (DEDUCED, log 38). -/
def State.writtenRecord (s : State) (p : PlanNo) (erase : Bool) (items : List PlanItem) : PlanRecord :=
  let base := s.writeBase p erase
  let r := base.applyAll items
  if base.isBlank && !r.isBlank then r.withDefaults else r

/-- An accepted write (R28); a structural one sends structure-changed (R30). -/
def State.storePlan (s : State) (p : PlanNo) (erase : Bool) (items : List PlanItem) : State :=
  let s' := s.setPlans (s.plans.set p (s.writtenRecord p erase items))
  if structuralWrite erase items then s'.setDirectory (s.directory.structureChanged p) else s'

/-- WRITE PLAN's checks and effect (R24, R25, R28). -/
def writePlan (body : List Byte) (s : State) : Reply × State :=
  match body with
  | p :: erase :: rest =>
    match readPlanItems rest.length rest with
    | none => (.refuse .badLength, s)
    | some items =>
      match planArg p, leadingFault p erase items.length with
      | some plan, none =>
        match s.writeFault plan (erase == 1) items with
        | some r => (r, s)
        | none =>
          let s' := s.storePlan plan (erase == 1) items
          (.ok [p, boolByte (s'.planComplete plan)], s')
      | _, n => (.badValue (n.getD 0), s)
  | _ => (.refuse .badLength, s)

/-- WRITE PLAN (R25). -/
def execWritePlan (s : State) : Result := serve 0x08 writePlan s

/-! ### READ PLAN (R33, R34, R198) -/

/-- A field as READ PLAN reports it: whether it is set, and its value, 0 when unset (R33). -/
def reportField (v : Option Nat) : List Byte := boolByte v.isSome :: u16 (v.getD 0)

/-- Part 0, the summary of a record (R33, R198). -/
def State.planSummary (s : State) (p : PlanNo) : List Byte :=
  let r := s.plans.get p
  [u8 p.num] ++ reportField r.cycle ++ reportField r.sIn ++ reportField r.sOut ++ reportField (r.ref.map Slot.num)
    ++ reportField r.oRef ++ reportField r.loss ++ reportField r.headway ++ reportField r.wIn ++ reportField r.wOut
    ++ Slot.all.flatMap (fun k => reportField (r.green.get k) ++ [u8 (r.image.get k).length])
    ++ [boolByte (s.planComplete p), boolByte (s.directory.active == some p),
        boolByte (s.directory.pending == some p), boolByte (s.corridor.settings.fallback == some p)]

/-- Parts 1 to 12, the image of a slot (R34, R198). -/
def State.planImage (s : State) (p : PlanNo) (k : Slot) : List Byte :=
  let image := (s.plans.get p).image.get k
  [u8 p.num, u8 k.num, u8 image.length] ++ image

/-- READ PLAN's checks and report (R33, R34). -/
def readPlan (body : List Byte) (s : State) : Reply × State :=
  match body with
  | [p, part] =>
    match planArg p with
    | none => (.badValue 0, s)
    | some plan =>
      if part = 0 then (.ok (s.planSummary plan), s)
      else
        match slotArg part with
        | none => (.badValue 1, s)
        | some k => (.ok (s.planImage plan k), s)
  | _ => (.refuse .badLength, s)

/-- READ PLAN (R33). -/
def execReadPlan (s : State) : Result := serve 0x09 readPlan s

end Sys2Proof.Machine
end

