-- ==== Sys2Proof/Machine/Settings.lean ====
section
/-! DEFINITION. SET CORRIDOR (R184) and READ CORRIDOR (R185, R198). -/

namespace Sys2Proof.Machine

/-- Whether an item names a known setting that no item before it names (R184, check 1). Of two items that name the same
setting the second is the bad one (DEDUCED, log 46). -/
def settingNameOk (before : List (Nat × Nat)) (x : Nat × Nat) : Bool :=
  (SettingId.ofCode x.1).isSome && !before.any fun y => y.1 == x.1

/-- Whether an item's value is in its setting's range (R184, check 3). -/
def settingValueOk (x : Nat × Nat) : Bool := (SettingId.ofCode x.1).any fun i => i.inRange x.2

/-- Whether an item names an Idle-only setting (R184, check 2). -/
def settingIdleOnly (x : Nat × Nat) : Bool := (SettingId.ofCode x.1).any SettingId.idleOnly

/-- The settings with every item stored (R184). -/
def Settings.storeAll (s : Settings) (items : List (Nat × Nat)) : Settings :=
  items.foldl (fun s x => match SettingId.ofCode x.1 with | some i => s.store i x.2 | none => s) s

/-- An accepted SET CORRIDOR: every value is stored at once, and the directories are brought into line when the
fallback setting is written (R124, R184). -/
def State.storeSettings (s : State) (items : List (Nat × Nat)) : State :=
  let settings := s.corridor.settings.storeAll items
  let s' := s.setCorridor { s.corridor with settings := settings }
  if items.any settingIdleOnly then s'.setDirectory (s.directory.align settings.fallback) else s'

/-- SET CORRIDOR's checks and effect (R184). -/
def setCorridor (body : List Byte) (s : State) : Reply × State :=
  match readSettingItems body with
  | none => (.refuse .badLength, s)
  | some items =>
    match firstBad settingNameOk 1 [] items with
    | some n => (.badValue n, s)
    | none =>
      if items.any settingIdleOnly && !(s.corridor.state == .idle) then (.refuse .wrongState, s)
      else
        match firstBad (fun _ x => settingValueOk x) 1 [] items with
        | some n => (.badValue n, s)
        | none => (.ok [u8 items.length], s.storeSettings items)

/-- SET CORRIDOR (R184). -/
def execSetCorridor (s : State) : Result := serve 0x0A setCorridor s

/-- What READ CORRIDOR reports (R185, R198). -/
def State.corridorContent (s : State) : List Byte :=
  (SettingId.all.flatMap fun i => u16 (s.corridor.settings.value i))
    ++ [u8 s.corridor.state.code, planByte s.directory.active, planByte s.directory.pending, u8 s.directory.deadline,
        planByte s.corridor.startingPlan, u8 s.clock.sequence, u8 s.flow.mode.code, u8 (holdCode s.flow.hold),
        u8 s.definedSlots.length]

/-- READ CORRIDOR: nothing changes (R185). -/
def execReadCorridor (s : State) : Result :=
  serve 0x0B (noArguments fun s => (.ok s.corridorContent, s)) s

end Sys2Proof.Machine
end

