-- ==== Sys2Proof/Machine/Line.lean ====
section
/-! DEFINITION. The Line Controller: reception, exchanges and their outcomes, the sweep, download frames, and the
line events of chapter 8. -/

namespace Sys2Proof.Machine

/-! ### Reception (R149, R150) -/

/-- What one received character does at the receiver. -/
inductive Reception where
  /-- The character is discarded while hunting. -/
  | hunting
  /-- The frame in assembly goes on. -/
  | assembling (f : RxFrame)
  /-- The frame is complete, to be checked. -/
  | complete (f : RxFrame)
  /-- A frame is discarded, with the window it began in; `counted` is false for an overrun (R150, R161). -/
  | discarded (tag : Option WindowTag) (counted : Bool)
  deriving DecidableEq, Repr

/-- The characters a frame occupies in the receive buffer: its start character and those after it (R150). -/
def RxFrame.size (f : RxFrame) : Nat := f.chars.length + 1

/-- The body length a frame in assembly announces, once it has been received. -/
def bodyLength : List Byte → Option Nat
  | _ :: _ :: n :: _ => some n.toNat
  | _ => none

/-- One character at the receiver, `stored` characters of complete frames being in the buffer. A frame that begins
now begins within the window `tag` (R149, R150; log 20, 21). A bad character that finds the buffer full is an
overrun, which is not counted (DESIGN CHOICE, log 41). -/
def receive (assembly : Option RxFrame) (stored : Nat) (tag : Option WindowTag) (c : LineChar) : Reception :=
  match assembly with
  | none =>
    if goodChar c && c.data == 0x5A then
      if Config.receiveBufferSize ≤ stored then .discarded tag false else .assembling { chars := [], tag := tag }
    else .hunting
  | some f =>
    if Config.receiveBufferSize ≤ stored + f.size then .discarded f.tag false
    else if !goodChar c then .discarded f.tag true
    else
      let f' : RxFrame := { f with chars := f.chars ++ [c.data] }
      match bodyLength f'.chars with
      | none => .assembling f'
      | some n =>
        if Config.longestBody < n then .discarded f'.tag true
        else if f'.chars.length = n + 5 then .complete f'
        else .assembling f'

/-- A complete frame that passes its CRC: its address, kind and body (R145, R146). -/
def goodFrame (chars : List Byte) : Option (Byte × Byte × List Byte) :=
  let covered := chars.take (chars.length - 2)
  if chars.drop (chars.length - 2) = crcBytes covered then
    match covered with
    | address :: kind :: _ :: body => some (address, kind, body)
    | _ => none
  else none

/-! ### Exchanges (R151) -/

/-- The window a frame that begins now falls in (R151): open once the frame of the exchange has been sent, until it
closes. -/
def Line.openWindow (l : Line) : Option WindowTag :=
  match l.exchange with
  | none => none
  | some e =>
    match e.window with
    | some _ => some { slot := e.slot, address := e.address, live := true }
    | none => none

/-- A frame that began within a window that has since closed. -/
def RxFrame.close (f : RxFrame) : RxFrame := { f with tag := f.tag.map fun t => { t with live := false } }

/-- A frame that is abandoned: it is ignored if good and counted nowhere if bad (R159). -/
def RxFrame.abandon (f : RxFrame) : RxFrame := { f with tag := none }

/-- The exchange ends: its window closes and the transmitter is Free (R151). -/
def Line.endExchange (l : Line) : Line :=
  { l with
    exchange := none, transmitter := .free, txChars := []
    assembly := l.assembly.map RxFrame.close, unchecked := l.unchecked.map RxFrame.close }

/-- How an exchange ends (R151). -/
inductive ExchangeEnd where
  | reply (body : List Byte)
  | badFrame
  | timedOut
  deriving DecidableEq, Repr

/-! ### The sweep (R157 to R159) -/

/-- Sweep complete: the Flow Estimator closes its cycle and hands over its snapshot, orders are created for needed
plans, and the download period opens (R36, R78, R129, R130, R159). -/
def State.sweepComplete (s : State) : State :=
  let s' := (s.setLine { s.line with sweep := none }).closeFlow.handOver.createOrders
  (s'.setLine { s'.line with period := true }).feed

/-- The current slot of the sweep has been resolved: it leaves the record, and the sweep is complete when none is
left (R158, R159). -/
def State.slotResolved (s : State) : State :=
  match s.line.sweep with
  | none => s
  | some w =>
    if w.waiting.isEmpty then s.sweepComplete
    else s.setLine { s.line with sweep := some { w with current := none } }

/-- A CYCLE REPORT as R175 leaves it. -/
structure CycleReport where
  echo : Nat
  step : StepReport
  flow : Both ApproachReport
  deriving DecidableEq, Repr

/-- The four bytes of one approach, occupancy clamped to 100, stray flag bits disregarded (R175, R200). -/
def approachReport (arrivals departures occupancy flags : Byte) : ApproachReport :=
  { arrivals := arrivals.toNat, departures := departures.toNat, occupancy := min 100 occupancy.toNat
    queueCleared := flags.getLsbD 0, advanceFault := flags.getLsbD 1, stopFault := flags.getLsbD 2 }

/-- The form check of a CYCLE REPORT; none is malformed (R175). -/
def readCycleReport : List Byte → Option CycleReport
  | [echo, u1, u0, running, mode, ai, di, oi, fi, ao, do_, oo, fo] =>
    match LocalMode.ofCode mode.toNat with
    | none => none
    | some m =>
      if running.toNat ≤ 3 then
        some
          { echo := echo.toNat
            step := { u := readU16 u1 u0 % 4096, running := running.toNat, mode := m }
            flow := ⟨approachReport ai di oi fi, approachReport ao do_ oo fo⟩ }
      else none
  | _ => none

/-- A poll with no acceptable reply: attempt 1 is retried, attempt 2 is a miss (R158). -/
def State.pollFailed (s : State) (k : Slot) (attempt : Nat) : State :=
  if attempt ≤ 1 then
    match s.line.sweep with
    | none => s
    | some w => s.setLine { s.line with sweep := some { w with current := some (k, 2) } }
  else (s.deliverMiss k).slotResolved

/-- The outcome of a poll (R158, R175, R176). -/
def State.pollOutcome (s : State) (k : Slot) (attempt : Nat) : ExchangeEnd → State
  | .badFrame => s.pollFailed k attempt
  | .timedOut => s.pollFailed k attempt
  | .reply body =>
    match readCycleReport body with
    | none => s.pollFailed k attempt
    | some r =>
      if s.line.sweep.any (fun w => w.sequence == r.echo) then (s.deliverReport k r.step r.flow).slotResolved
      else (s.deliverMiss k).slotResolved

/-! ### Downloads (R153, R177) -/

/-- How the Directory Unit is to take an IMAGE ACK: accepted only when it reports so and names the frame's target
slot and plan (R131, R177). -/
def State.ackOutcome (s : State) (k : Slot) (body : List Byte) : LoadOutcome :=
  match body, s.directory.orders.find? fun o => o.slot == k && o.stage == .onLine with
  | [result, slot, plan], some o =>
    if result = 0 ∧ o.target.map DirSlot.num = some slot.toNat ∧ o.plan.num = plan.toNat then .accepted else .refused
  | _, _ => .refused

/-- The outcome of a download exchange, as it is reported to the Directory Unit (R153). -/
def State.downloadOutcome (s : State) (k : Slot) : ExchangeEnd → State
  | .reply body => s.resolveLoad k (s.ackOutcome k body)
  | .badFrame => s.resolveLoad k .timedOut
  | .timedOut => s.resolveLoad k .timedOut

/-- The open exchange ends with an outcome (R151, R153, R158). -/
def State.endExchange (s : State) (r : ExchangeEnd) : State :=
  match s.line.exchange with
  | none => s
  | some e =>
    let s' := s.setLine s.line.endExchange
    match e.kind with
    | .poll => s'.pollOutcome e.slot e.attempt r
    | .download => s'.downloadOutcome e.slot r

/-! ### Bad frames and line quality (R161) -/

/-- A bad frame is counted against a slot that is still defined with the exchange's address (R161). -/
def State.countBad (s : State) (k : Slot) (address : Nat) : State :=
  if (s.corridor.table.get k).any fun j => j.address == address then
    let q := s.line.quality.get k
    let n := min 65535 (q.count + 1)
    let threshold := s.corridor.settings.qualityThreshold
    let above := decide (threshold < n)
    let s' := s.setLine { s.line with quality := s.line.quality.set k ⟨n, q.current || above⟩ }
    if above && !q.current then s'.signal (.condition .lineQuality k true (.lineQuality n threshold)) else s'
  else s

/-- A bad frame or an overrun: it is counted if it began within a window, and ends the exchange of a window that is
still open, all at one moment (R150, R151, R161, R191). -/
def State.badFrame (s : State) (tag : Option WindowTag) (counted : Bool) : State :=
  match tag with
  | none => s
  | some t =>
    s.moment fun s =>
      let s' := if counted then s.countBad t.slot t.address else s
      if t.live then s'.endExchange .badFrame else s'

/-- The frame kind that ends an exchange (R145). -/
def ExchangeKind.reply : ExchangeKind → Nat
  | .poll => kindCycleReport
  | .download => kindImageAck

/-- Whether a frame that began within the open window is in the receive buffer (R151). -/
def Line.frameInWindow (l : Line) : Bool :=
  (l.assembly.toList ++ l.unchecked).any fun f => f.tag.any fun t => t.live

/-- Whether the window of the exchange has closed with no frame left that began within it (R151). -/
def Line.windowOver (l : Line) : Bool :=
  l.transmitter == .awaiting && l.exchange.any (fun e => e.window.isNone) && !l.frameInWindow

/-- A good frame is classified: it ends the exchange in whose window it began when it comes from the exchange's
address and is of the expected kind, else it is ignored (R151). The last frame ignored after the window has closed
leaves a timeout (DEDUCED, log 36). -/
def State.classify (s : State) (tag : Option WindowTag) (address kind : Byte) (body : List Byte) : State :=
  match tag, s.line.exchange with
  | some t, some e =>
    if t.live ∧ address.toNat = e.address ∧ kind.toNat = e.kind.reply then s.moment (·.endExchange (.reply body))
    else if s.line.windowOver then s.moment (·.endExchange .timedOut)
    else s
  | _, _ => s

/-- A complete frame is checked (R149). -/
def State.checkFrame (s : State) (f : RxFrame) : State :=
  match goodFrame f.chars with
  | some (address, kind, body) => s.classify f.tag address kind body
  | none => s.badFrame f.tag true

/-- Up to `n` complete frames are checked, oldest first (R150). -/
def State.checkFrames : Nat → State → State
  | 0, s => s
  | n + 1, s =>
    match s.line.unchecked with
    | [] => s
    | f :: rest => ((s.setLine { s.line with unchecked := rest }).checkFrame f).checkFrames n

/-- The characters that the complete frames in the receive buffer occupy (R150). -/
def Line.stored (l : Line) : Nat := (l.unchecked.map RxFrame.size).sum

/-- One character received on the line; with `prompt` a complete frame is checked at once (R149, R150; log 5). -/
def State.corridorChar (prompt : Bool) (s : State) (c : LineChar) : State :=
  match receive s.line.assembly s.line.stored s.line.openWindow c with
  | .hunting => s
  | .assembling f => s.setLine { s.line with assembly := some f }
  | .discarded tag counted => (s.setLine { s.line with assembly := none }).badFrame tag counted
  | .complete f =>
    let s' := s.setLine { s.line with assembly := none, unchecked := s.line.unchecked ++ [f] }
    if prompt then s'.checkFrames s'.line.unchecked.length else s'

/-- Whether the part hears the corridor line: not while it sends, nor during a loopback test (R148, R163). -/
def Line.hears (l : Line) : Bool :=
  match l.transmitter with
  | .free | .awaiting => true
  | .sending | .test => false

/-- CORRIDOR_FRAME_RECEIVED: characters arrive on the corridor line. Those that come while the part does not hear
the line are lost (R148, R163; log 25). -/
def execCorridorFrameReceived (chars : List LineChar) (carrierAfter prompt : Bool) (s : State) : Result :=
  if s.line.hears then
    let s1 := if prompt then s.checkFrames s.line.unchecked.length else s
    let s2 := chars.foldl (State.corridorChar prompt) s1
    .next (s2.setLine { s2.line with carrier := carrierAfter, quietFor := none })
  else .next s

/-- FRAME_TRUNCATED: the line falls quiet with a frame in assembly, a frame error (R149). -/
def execFrameTruncated (s : State) : Result :=
  match s.line.assembly with
  | none => .fault .noFrameToTruncate
  | some f =>
    if s.line.carrier then .fault .noFrameToTruncate
    else .next ((s.setLine { s.line with assembly := none, quietFor := some 0 }).badFrame f.tag true)

/-! ### Beginning and ending the part's own frames (R148, R151 to R153) -/

/-- Whether a frame may begin: the transmitter Free and the line quiet (R148). The quiet interval has passed when
the command comes (log 26). -/
def Line.mayBegin (l : Line) : Except Fault Unit :=
  match l.transmitter with
  | .free => if l.carrier || l.assembly.isSome then .error .lineNotQuiet else .ok ()
  | .sending | .awaiting | .test => .error .transmitterBusy

/-- A frame begins: the transmitter is Sending its characters, and the line is not quiet (R148). -/
def Line.begin_ (l : Line) (chars : List LineChar) : Line :=
  { l with transmitter := .sending, txChars := chars, quietFor := none }

/-- Whether the cycle's beacon is Waiting, which holds every other frame back (R152). -/
def BeaconPhase.isWaiting : BeaconPhase → Bool
  | .waiting _ => true
  | .none | .sending _ | .sent | .withdrawn => false

/-- The slot and attempt of the sweep's next poll: the retry of the current slot, or the first slot not yet polled
(R157, R158). -/
def Sweep.next (w : Sweep) : Option (Slot × Nat × List Slot) :=
  match w.current, w.waiting with
  | some (k, a), rest => some (k, a, rest)
  | none, k :: rest => some (k, 1, rest)
  | none, [] => none

/-- POLL_BEGIN: the sweep's next POLL begins and opens an exchange (R151, R157). -/
def execPollBegin (s : State) : Result :=
  match s.line.sweep.bind fun w => w.next.map fun n => (w, n) with
  | none => .fault .noPollDue
  | some (w, k, attempt, rest) =>
    match s.line.mayBegin with
    | .error f => .fault f
    | .ok () =>
      match s.corridor.table.get k with
      | none => .fault .slotUndefined
      | some j =>
        .next (s.setLine
          { s.line.begin_ (lineFrame j.address kindPoll [u8 w.sequence]) with
            sweep := some { w with current := some (k, attempt), waiting := rest }
            exchange := some { kind := .poll, slot := k, address := j.address, attempt := attempt, window := none } })

/-- The order of a download frame becomes On line (R130). -/
def DirectoryUnit.goOnLine (u : DirectoryUnit) (k : Slot) (p : PlanNo) : DirectoryUnit :=
  { u with orders := u.orders.map fun o => if o.isFor k p then { o with stage := .onLine } else o }

/-- The attempt number of the order for junction `k` and plan `p` (log 31). -/
def DirectoryUnit.attemptOf (u : DirectoryUnit) (k : Slot) (p : PlanNo) : Nat :=
  ((u.orders.find? fun o => o.isFor k p).map fun o => o.attempts).getD 1

/-- DOWNLOAD_FRAME_BEGIN: the download frame at the head of the queue begins and opens an exchange; a frame has
left the queue, so another may be queued (R130, R151, R153). -/
def execDownloadFrameBegin (s : State) : Result :=
  match s.line.period, s.line.queue with
  | true, .load f :: rest =>
    match s.line.mayBegin with
    | .error e => .fault e
    | .ok () =>
      match s.corridor.table.get f.slot with
      | none => .fault .slotUndefined
      | some j =>
        .next ((s.setLine
          { s.line.begin_ (lineFrame j.address kindImageLoad f.body) with
            queue := rest
            exchange := some
              { kind := .download, slot := f.slot, address := j.address
                attempt := s.directory.attemptOf f.slot f.plan, window := none } }).setDirectory
          (s.directory.goOnLine f.slot f.plan)).feed
  | _, _ => .fault .noDownloadDue

/-- EXCHANGE_FRAME_SENT: the last character of a POLL or IMAGE LOAD ends and the reply window opens, for the reply
timeout as it stands. A POLL whose exchange the sweep deadline has ended opens none (R151, R159). -/
def execExchangeFrameSent (s : State) : Result :=
  match s.line.transmitter, s.line.beacon with
  | .sending, .sending _ => .fault .noExchangeFrame
  | .sending, _ =>
    .next (s.setLine
      { s.line with
        txChars := []
        transmitter := if s.line.exchange.isSome then .awaiting else .free
        exchange := s.line.exchange.map fun e => { e with window := some s.corridor.settings.replyTimeout } })
  | _, _ => .fault .noExchangeFrame

/-- REPLY_TIMEOUT: the window closes. With no frame in it the exchange ends in timeout; a frame that began within it
is received to its end and decides the outcome then (R151). -/
def execReplyTimeout (s : State) : Result :=
  match s.line.exchange with
  | none => .fault .noWindowOpen
  | some e =>
    match e.window with
    | none => .fault .noWindowOpen
    | some _ =>
      if s.line.frameInWindow then .next (s.setLine { s.line with exchange := some { e with window := none } })
      else .next (s.moment (·.endExchange .timedOut))

/-! ### The sweep deadline (R159) -/

/-- The slots missed at the deadline: the current one, then those not yet polled (R159). -/
def Sweep.missed (w : Sweep) : List Slot := (w.current.map Prod.fst).toList ++ w.waiting

/-- The line at the deadline: the exchange ends with no outcome, a POLL being sent completes its characters, and a
frame that began within a window is abandoned (R159). -/
def Line.deadline (l : Line) : Line :=
  { l with
    exchange := none
    transmitter := match l.transmitter with
      | .awaiting => .free
      | .free => .free
      | .sending => .sending
      | .test => .test
    assembly := l.assembly.map RxFrame.abandon
    unchecked := l.unchecked.map RxFrame.abandon }

/-- SWEEP_OVERRUN for the slots missed at the deadline. -/
def overrunSignals (sequence : Nat) : List Slot → List Signal
  | [] => []
  | k :: rest => [.event (.sweepOverrun sequence k (rest.length + 1))]

/-- The misses of the deadline in ascending slot order, and SWEEP_OVERRUN; then sweep complete is signalled (R159). -/
def State.overrun (s : State) (w : Sweep) : State :=
  ((w.missed.foldl State.deliverMiss s).signals (overrunSignals w.sequence w.missed)).sweepComplete

/-- SWEEP_DEADLINE: every slot not resolved is missed, SWEEP_OVERRUN is raised and sweep complete is signalled
(R159). The command falls at master time C - 100 (log 27). -/
def execSweepDeadline (s : State) : Result :=
  match s.line.sweep with
  | none => .fault .noPollDue
  | some w =>
    let instant := s.clock.length - Config.sweepDeadlineBefore
    if instant < s.clock.masterTime then .fault .instantPassed
    else
      .next (((s.setClock { s.clock with masterTime := instant }).setLine s.line.deadline).moment (·.overrun w))

/-! ### Line-quality windows (R162) -/

/-- The end of a window for one slot (R162). -/
def Quality.endWindow (q : Quality) (threshold : Nat) : Quality :=
  { count := 0, current := q.current && decide (threshold < q.count) }

/-- The slots whose LINE_QUALITY becomes false at the end of a window (R162). -/
def State.windowSignals (s : State) : List Signal :=
  let threshold := s.corridor.settings.qualityThreshold
  (s.definedSlots.filter fun k =>
      let q := s.line.quality.get k
      q.current && !(q.endWindow threshold).current).map fun k =>
    .condition .lineQuality k false (.lineQuality (s.line.quality.get k).count threshold)

/-- LINE_QUALITY_WINDOW_END: every defined slot is compared with the threshold, the counts become 0 and the next
window begins (R162). -/
def execLineQualityWindowEnd (s : State) : Result :=
  let threshold := s.corridor.settings.qualityThreshold
  .next ((s.setLine { s.line with
      windowTime := 0
      quality := s.line.quality.mapSlot fun k q => if s.defined k then q.endWindow threshold else q }).signals
    s.windowSignals)

end Sys2Proof.Machine
end

