-- ==== Sys2Proof/Machine/Cycle.lean ====
section
/-! DEFINITION. The master cycle: cycle zero with its commit test and beacon, the beacon's sending and withdrawal,
the entry to Idle, and the download guard (R12 to R16, R89, R90, R99, R138, R154 to R156). -/

namespace Sys2Proof.Machine

/-! ### Cycle zero (R13, R14) -/

/-- The length of the cycle that begins: the C of the plan the clock runs on (R13). -/
def State.lengthInForce (s : State) : Nat := (s.planInForce.bind s.cycleOf).getD s.clock.length

/-- Cycle zero: master time is 0, the deadline is counted and the commit test made, the length of the cycle is
fixed, and the beacon is assembled (R13, R138, R165). A commit in Running that changes C holds every adjustment
(R94). -/
def State.cycleZero (s : State) (sequence : Nat) : State :=
  let s1 := s.setClock { s.clock with masterTime := 0, sequence := sequence }
  let s2 := s1.commitTest
  let committed := s1.directory.pending.isSome && s2.directory.pending.isNone
  let s3 := s2.setClock { s2.clock with length := s2.lengthInForce }
  s3.assembleBeacon
    (committed && s1.corridor.state == .running && decide (s3.clock.length ≠ s1.clock.length))

/-- Whether the beacon of the cycle is Waiting or Sending. -/
def BeaconPhase.unsent : BeaconPhase → Bool
  | .waiting _ | .sending _ => true
  | .none | .sent | .withdrawn => false

/-- Whether an event of the present cycle must fall before the next cycle zero: the beacon sent or withdrawn, the
sweep and its computation ended, the download period closed (R15, R16, R36, R159). -/
def State.cycleUnfinished (s : State) : Bool :=
  s.line.beacon.unsent || s.line.sweep.isSome || s.engine.inFlight.isSome || s.line.period

/-- CYCLE_ZERO: master time reaches C and returns to 0, and the sequence number advances (R13, R14). It is taken at any
master time once the events of the cycle are over (DESIGN CHOICE, log 27). -/
def execCycleZero (s : State) : Result :=
  if s.corridor.state = .idle then .fault .clockStopped
  else if s.cycleUnfinished then .fault .earlierInstantOutstanding
  else .next (s.cycleZero ((s.clock.sequence + 1) % 256))

/-! ### The beacon begins (R89, R99, R154) -/

/-- The alignment memory of a slot after a beacon begins (R99). -/
def TentativeCopy.memory (t : TentativeCopy) (b : Beacon) (late : Nat) : Memory :=
  { sequence := b.sequence, cycle := b.cycle, lateness := late, command := t.command, slot := t.slot,
    expected := t.expected }

/-- Every defined slot's alignment memory is replaced (R89, R99). -/
def State.handMemories (s : State) (b : Beacon) (late : Nat) : State :=
  match s.transition.tentative with
  | none => s
  | some n =>
    s.setMonitor (s.monitor.mapSlot fun k r =>
      if s.defined k then
        match n.copies.get k with
        | some t => { r with memory := some (t.memory b late) }
        | none => r
      else r)

/-- What the beginning of a beacon does, its lateness known: it leaves the queue and is sent with its lateness, the
tentative records become standing, the memories are handed over, held messages applied, and TRANSITION_BLOCKED sent
(R89, R93, R99, R154). -/
def State.beaconGoes (s : State) (b : Beacon) (late : Nat) (rest : List TxFrame) : State :=
  let s1 := (s.setClock { s.clock with masterTime := late }).setLine
    { s.line.begin_ (lineFrame 0 kindBeacon (b.body late)) with queue := rest, beacon := .sending b }
  let s2 := s1.handMemories b late
  (s2.setTransition s2.transition.makeStanding.release).sendBlocked

/-- BEACON_BEGIN: the beacon's first character begins at master time `at_`, which is its lateness (R16, R154). -/
def execBeaconBegin (at_ : Nat) (s : State) : Result :=
  match s.line.beacon, s.line.queue with
  | .waiting limit, .beacon b :: rest =>
    match s.line.mayBegin with
    | .error f => .fault f
    | .ok () =>
      if at_ < s.clock.masterTime then .fault .outsideLateness
      else if limit < at_ then .fault .outsideLateness
      else .next (s.beaconGoes b at_ rest)
  | _, _ => .fault .noBeaconWaiting

/-! ### The beacon is withdrawn (R90, R155) -/

/-- What held the line when a beacon is withdrawn: a reply awaited, foreign carrier, or, where both do, a free value
(R155; log 7). -/
def State.replyHolds (s : State) : Bool :=
  if s.line.exchange.isSome then
    if s.line.carrier || s.line.assembly.isSome then Config.freeHoldingCause s.free else true
  else false

/-- The transmit queue less the beacon (R155). -/
def dropBeacon (q : List TxFrame) : List TxFrame :=
  q.filter fun
    | .beacon _ => false
    | .load _ => true

/-- BEACON_WITHDRAWN: master time reaches the lateness limit plus one with the beacon Waiting (R90, R155). -/
def execBeaconWithdrawn (s : State) : Result :=
  match s.line.beacon with
  | .waiting limit =>
    if limit + 1 < s.clock.masterTime then .fault .instantPassed
    else
      let s1 := ((s.setClock { s.clock with masterTime := limit + 1 }).setLine
        { s.line with queue := dropBeacon s.line.queue, beacon := .withdrawn }).setTransition s.transition.release
      .next ({ s1 with free := s.free + 1 }.signal
        (.event (.beaconSkipped s.clock.sequence s.replyHolds)))
  | .none | .sending _ | .sent | .withdrawn => .fault .noBeaconWaiting

/-! ### The beacon is sent (R12, R156, R157) -/

/-- The blocks on entry to Idle from Stopping (R12, R61, R80, R97, R126, R147). DESIGN CHOICE (log 44): its CORRIDOR_STATE
is raised when the active plan has become none, so that none is the active plan that its notice reports (R143). -/
def State.enterIdle (s : State) : State :=
  let s1 := ((((((((s.setCorridor { s.corridor with
      state := .idle, capacity := PerSlot.fill ⟨0, 0⟩, startingPlan := none }).setClock
    { s.clock with masterTime := 0, length := 0 }).setDirectory
    { s.directory with active := none, pending := none, deadline := 0 }).setTransition .empty).setEngine
    { results := none, inFlight := none }).setFlow s.flow.enterIdle).setMonitor (initialMonitor s.defined)).setLine
    { s.line with beacon := .none, sweep := none, period := false })
  (s1.signal (.event (.corridorState .stopping .idle))).signals (.blocked [] :: clearFlowConditions)

/-- BEACON_SENT: the transmitter is Free; the stopping beacon takes the corridor to Idle, any other begins the sweep
(R12, R156, R157). -/
def execBeaconSent (s : State) : Result :=
  match s.line.beacon with
  | .sending b =>
    let s1 := s.setLine { s.line with beacon := .sent, transmitter := .free, txChars := [] }
    if b.stopping then .next s1.enterIdle
    else .next (s1.setLine { s1.line with
      sweep := some { sequence := b.sequence, current := none, waiting := s.definedSlots } })
  | .none | .waiting _ | .sent | .withdrawn => .fault .noBeaconSending

/-! ### The download guard (R15, R153) -/

/-- DOWNLOAD_GUARD: master time reaches C - 60 and the download period closes; queued frames stay queued (R153). -/
def execDownloadGuard (s : State) : Result :=
  let instant := s.clock.length - Config.downloadGuardBefore
  if s.corridor.state = .idle then .fault .clockStopped
  else if s.line.beacon.unsent || s.line.sweep.isSome then .fault .earlierInstantOutstanding
  else if instant < s.clock.masterTime then .fault .instantPassed
  else .next ((s.setClock { s.clock with masterTime := instant }).setLine { s.line with period := false })

/-! ### A decisecond with no command (log 1) -/

/-- Whether an event must come before a whole decisecond passes: an instant of the cycle, the end of a line-quality
window, a reply window, a computation, or characters half received (log 1). -/
def State.eventDue (s : State) : Bool :=
  (match s.line.beacon with
    | .waiting limit => decide (limit ≤ s.clock.masterTime)
    | .none | .sending _ | .sent | .withdrawn => false)
    || (s.line.sweep.isSome && decide (s.clock.length ≤ s.clock.masterTime + Config.sweepDeadlineBefore + 1))
    || (s.line.period && decide (s.clock.length ≤ s.clock.masterTime + Config.downloadGuardBefore + 1))
    || (!(s.corridor.state == .idle) && decide (s.clock.length ≤ s.clock.masterTime + 1))
    || decide (Config.qualityWindow ≤ s.line.windowTime + 1)
    || s.engine.inFlight.isSome || s.line.assembly.isSome || s.host.framer.isSome
    || s.line.exchange.any fun e => e.window.any fun w => decide (w ≤ 100)

/-- The quiet time of the line after a further decisecond (R147). -/
def Line.quietAfter (l : Line) : Option Nat :=
  if l.carrier || !l.hears then none
  else
    match l.quietFor with
    | some n => some (n + 100)
    | none => some 95

/-- One decisecond of the time base with no command (R13, R162; log 1). -/
def State.tick (s : State) : State :=
  if s.eventDue then s
  else
    (s.setClock { s.clock with
        masterTime := if s.corridor.state = .idle then s.clock.masterTime else s.clock.masterTime + 1 }).setLine
      { s.line with
        windowTime := s.line.windowTime + 1
        quietFor := s.line.quietAfter
        exchange := s.line.exchange.map fun e => { e with window := e.window.map fun w => w - 100 } }

end Sys2Proof.Machine
end

