-- ==== Sys2Proof/Machine/Run.lean ====
section
/-! DEFINITION. START and STOP (R7, R8, R10). -/

namespace Sys2Proof.Machine

/-! ### START (R7, R8) -/

/-- The storage capacities of every defined slot (R5). -/
def deriveCapacities (table : PerSlot (Option JunctionDef)) : PerSlot (Both Nat) := PerSlot.of (storageOf table)

/-- The Directory Unit takes the starting plan as pending; its list keeps only an order that is On line (R126,
R129). -/
def DirectoryUnit.takeStart (u : DirectoryUnit) (p : PlanNo) (deadline : Nat) : DirectoryUnit :=
  { u with
    active := none, pending := some p, deadline := deadline
    orders := u.orders.filter fun o => o.stage == .onLine }

/-- Approach records for every defined slot, as START creates them (R60). -/
def initialApproaches (defined : Slot → Bool) : PerSlot (Option (Both Approach)) :=
  PerSlot.of fun k => if defined k then some ⟨.initial, .initial⟩ else none

/-- An accepted START: the six steps of R8 in their order, the last of them cycle zero. -/
def State.startPlan (s : State) (p : PlanNo) : State :=
  let s1 := s.setCorridor { s.corridor with capacity := deriveCapacities s.corridor.table }
  let s2 := (s1.setCorridor { s1.corridor with state := .starting, startingPlan := some p }).signal
    (.event (.corridorState .idle .starting))
  let s3 := (s2.setDirectory (s2.directory.takeStart p s2.corridor.settings.switchDeadline)).createOrders
  let s4 := (s3.setFlow (s3.flow.restart (initialApproaches s.defined))).signals clearFlowConditions
  let s5 := ((s4.setMonitor (initialMonitor s.defined)).setTransition (.create s.defined)).signal (.blocked [])
  let s6 := (s5.setEngine { results := none, inFlight := none }).setClock
    { masterTime := 0, sequence := 0, length := (s5.cycleOf p).getD 0 }
  s6.cycleZero 0

/-- START's checks and effect (R7, R8). -/
def startCorridor (n : Byte) (s : State) : Reply × State :=
  if s.corridor.state ≠ .idle then (.refuse .wrongState, s)
  else
    match planArg n with
    | none => (.badValue 0, s)
    | some p =>
      if s.definedSlots.isEmpty then (.refuse .notDefined, s)
      else if !s.planComplete p then (.planIncomplete p, s)
      else
        match s.corridor.settings.fallback with
        | none => (.ok [], s.startPlan p)
        | some f => if !s.planComplete f then (.planIncomplete f, s) else (.ok [], s.startPlan p)

/-- START (R8). -/
def execStart (s : State) : Result := serve 0x0C (planRequest startCorridor) s

/-! ### STOP (R10) -/

/-- An accepted STOP: the pending plan is cleared, downloads not On line are withdrawn, and a computation in flight
is discarded (R10, R55, R133). The deadline count stays (log 12). -/
def State.stopCorridor (s : State) : State :=
  let s1 := (s.setCorridor { s.corridor with state := .stopping }).signal
    (.event (.corridorState s.corridor.state .stopping))
  let s2 := (s1.setDirectory { s1.directory with pending := none }).withdrawAll fun _ => true
  s2.setEngine { s2.engine with inFlight := none }

/-- STOP's check and effect (R10). -/
def stopRequest (s : State) : Reply × State :=
  if s.live then (.ok [], s.stopCorridor) else (.refuse .wrongState, s)

/-- STOP (R10). -/
def execStop (s : State) : Result := serve 0x0D (noArguments stopRequest) s

end Sys2Proof.Machine
end

