-- ==== Sys2Proof/Machine/Reset.lean ====
section
/-! DEFINITION. The two resets: COLD_RESET (R17) and RESET, the warm reset (R18, R186). -/

namespace Sys2Proof.Machine

/-- COLD_RESET: the whole part as R17 states. The commands that wait and the counter of free values are the model's
own and stay (log 28). -/
def execColdReset (s : State) : Result := .next { State.reset with free := s.free, pending := s.pending }

/-- The line after a warm reset: a frame being sent is cut off, the queue, buffer, exchange, beacon and sweep go, and
the line-quality window restarts (R18, R147; log 22). -/
def Line.warmReset (l : Line) : Line :=
  { l with
    transmitter := .free, txChars := [], queue := [], assembly := none, unchecked := [], exchange := none,
    beacon := .none, sweep := none, period := false, windowTime := 0, quality := PerSlot.fill ⟨0, false⟩,
    loopback := none }

/-- The directories and plan state after a warm reset (R18, R122, R126, R134). -/
def DirectoryUnit.warmReset (u : DirectoryUnit) : DirectoryUnit :=
  { dirs := u.dirs.mapSlot fun _ d => d.warmReset, active := none, pending := none, deadline := 0, orders := [] }

/-- The warm reset, block by block (R18). The junction table, plan table, settings, hold and masks are kept, and the
host link goes on (R180, R182, R186). -/
def State.warmReset (s : State) : State :=
  ((((((((s.setCorridor { s.corridor with
      state := .idle, capacity := PerSlot.fill ⟨0, 0⟩, startingPlan := none }).setClock
    { masterTime := 0, sequence := 0, length := 0 }).setDirectory s.directory.warmReset).setTransition
    .empty).setEngine { results := none, inFlight := none }).setFlow
    (s.flow.restart (PerSlot.fill none))).setMonitor (initialMonitor s.defined)).setLine s.line.warmReset).setNotices
    s.notices.warmReset

/-- RESET: the reply carries the corridor state that stood before (R18, R186). -/
def execReset (s : State) : Result :=
  serve 0x04 (noArguments fun s => (.ok [u8 s.corridor.state.code], s.warmReset)) s

end Sys2Proof.Machine
end

