-- ==== Sys2Proof/Machine/Loopback.lean ====
section
/-! DEFINITION. The loopback test (R163, R164). -/

namespace Sys2Proof.Machine

/-- A loopback record as an accepted test makes it (R147, R163). -/
def Loopback.start (repetitions : Nat) (payload : List Byte) : Loopback :=
  { repetitions := repetitions, payload := payload, sent := 0, matched := 0, thisMatched := false, errors := 0 }

/-- The checks of LOOPBACK TEST on its arguments; none is a body whose length does not fit (R163, R197). -/
def readLoopback : List Byte → Option (Nat × List Byte)
  | repetitions :: length :: payload =>
    if length.toNat = payload.length then some (repetitions.toNat, payload) else none
  | _ => none

/-- The number of the argument that is out of range, if one is (R163). -/
def loopbackFault (repetitions length : Nat) : Option Nat :=
  firstFalse [inRange 1 16 repetitions, inRange 1 64 length]

/-- LOOPBACK_TEST: refused, or accepted, in which case the request holds the head of the queue with no reply until
the test ends (R163, R180). -/
def execLoopbackTest (s : State) : Result :=
  match s.requestToTake with
  | .error f => .fault f
  | .ok r =>
    if r.kind.toNat = 0x16 then
      match readLoopback r.body with
      | none => .next (s.answer r (.refuse .badLength))
      | some (repetitions, payload) =>
        if s.corridor.state ≠ .idle then .next (s.answer r (.refuse .wrongState))
        else
          match loopbackFault repetitions payload.length with
          | some n => .next (s.answer r (.badValue n))
          | none =>
            .next ((s.setHost { s.host with serving := true }).setLine
              { s.line with loopback := some (.start repetitions payload) })
    else .fault .otherRequestAtHead

/-- LOOPBACK_BEGIN: once any exchange has ended, the transmitter is taken off the line, and the receiver's frame in
assembly and buffer are discarded (R163). The line need not be quiet (DEDUCED, log 42). -/
def execLoopbackBegin (s : State) : Result :=
  match s.line.loopback, s.line.transmitter with
  | none, _ => .fault .noLoopbackDue
  | some _, .free =>
    .next (s.setLine
      { s.line with
        transmitter := .test, assembly := none, unchecked := [], carrier := false, quietFor := none })
  | some _, .test => .fault .noLoopbackDue
  | some _, .sending => .fault .transmitterBusy
  | some _, .awaiting => .fault .transmitterBusy

/-- The body of the TEST frame of repetition `i` (R163, R200). -/
def Loopback.frameBody (b : Loopback) (i : Nat) : List Byte := u8 i :: b.payload

/-- TEST_FRAME_BEGIN: the next repetition's frame begins, two character times after the one before it ended, when the
copy of that one can no longer match (R163). -/
def execTestFrameBegin (s : State) : Result :=
  match s.line.loopback, s.line.transmitter with
  | some b, .test =>
    if b.sent < b.repetitions then
      .next (s.setLine
        { s.line with
          txChars := lineFrame 0 kindTest (b.frameBody (b.sent + 1))
          assembly := none
          loopback := some { b with sent := b.sent + 1, thisMatched := false } })
    else .fault .noLoopbackDue
  | _, _ => .fault .noLoopbackDue

/-- Whether a complete looped copy is identical to the frame sent last: CRC good, address 0, kind TEST, the same
body (R163). -/
def Loopback.matches_ (b : Loopback) (f : RxFrame) : Bool :=
  match goodFrame f.chars with
  | some (address, kind, body) =>
    address == 0 && kind.toNat == kindTest && body == b.frameBody b.sent
  | none => false

/-- One character of the internal loop: a character error is counted, and the receiver takes it as any other (R149,
R163). A copy is checked when it is complete; each repetition has at most one match. -/
def Line.loopChar (l : Line) (c : LineChar) : Line :=
  match l.loopback with
  | none => l
  | some b =>
    let b' := { b with errors := b.errors + (if goodChar c then 0 else 1) }
    match receive l.assembly 0 none c with
    | .hunting => { l with loopback := some b' }
    | .assembling f => { l with loopback := some b', assembly := some f }
    | .discarded _ _ => { l with loopback := some b', assembly := none }
    | .complete f =>
      if b'.matches_ f && !b'.thisMatched then
        { l with loopback := some { b' with matched := b'.matched + 1, thisMatched := true }, assembly := none }
      else { l with loopback := some b', assembly := none }

/-- LOOPBACK_FRAME_RECEIVED: characters arrive on the internal loop, in time for the copy of the frame sent last
(R163; log 9). -/
def execLoopbackFrameReceived (chars : List LineChar) (s : State) : Result :=
  match s.line.loopback, s.line.transmitter with
  | some b, .test =>
    if b.sent = 0 then .fault .noLoopbackDue else .next (s.setLine (chars.foldl Line.loopChar s.line))
  | _, _ => .fault .noLoopbackDue

/-- The content of the reply that ends a test (R164, R198). -/
def Loopback.content (b : Loopback) : List Byte := [u8 b.repetitions, u8 b.matched] ++ u16 (min 65535 b.errors)

/-- LOOPBACK_COMPLETE: the last repetition's copy has matched or its time has passed; the transmitter is Free, the
receiver hunts on the line, and the request is answered (R164). -/
def execLoopbackComplete (s : State) : Result :=
  match s.line.loopback, s.line.transmitter, s.host.queue with
  | some b, .test, r :: _ =>
    if b.sent = b.repetitions then
      .next ((s.setLine
        { s.line with transmitter := .free, txChars := [], assembly := none, loopback := none }).answer r
        (.ok b.content))
    else .fault .noLoopbackDue
  | _, _, _ => .fault .noLoopbackDue

end Sys2Proof.Machine
end

