-- ==== Sys2Proof/Machine/Status.lean ====
section
/-! DEFINITION. STATUS and SET NOTICE MASK (R189, R190, R198). -/

namespace Sys2Proof.Machine

/-- A status byte: the latched value in bit 0 and the current value in bit 1 (R198). -/
def statusByte (latched current : Bool) : Byte := u8 ((if latched then 1 else 0) + (if current then 2 else 0))

/-- An event latch as STATUS reports it: an event's current value is always false (10.5, R198). -/
def EventLatch.report (l : EventLatch) : List Byte := [statusByte l.latched false, u8 l.count]

/-- A condition latch as STATUS reports it. -/
def ConditionLatch.report (l : ConditionLatch) : List Byte := [statusByte l.latched l.current]

/-- The corridor kinds in code order 1 to 9 (R198). -/
def CorridorLatches.report (c : CorridorLatches) : List Byte :=
  c.corridorState.report ++ c.planCommitted.report ++ c.planExclusion.report ++ c.directionChanged.report
    ++ c.beaconSkipped.report ++ c.sweepOverrun.report ++ c.transitionBlocked.report ++ c.hostFrameError.report
    ++ c.noticeOverflow.report

/-- The per-slot kinds in code order 10 to 16 (R198). -/
def SlotLatches.report (c : SlotLatches) : List Byte :=
  c.stepChange.report ++ c.slip.report ++ c.realigned.report ++ c.spillback.report ++ c.detectorFault.report
    ++ c.lineQuality.report ++ c.downloadFailed.report

/-- What STATUS reports (R189, R198). -/
def State.statusContent (s : State) : List Byte :=
  [u8 s.corridor.state.code, planByte s.directory.active, planByte s.directory.pending, u8 s.clock.sequence]
    ++ s.notices.corridor.report ++ Slot.all.flatMap fun k => (s.notices.slots.get k).report

/-- STATUS clears every corridor latch whose current value is false (R189). -/
def CorridorLatches.read (c : CorridorLatches) : CorridorLatches :=
  { corridorState := c.corridorState.read, planCommitted := c.planCommitted.read,
    planExclusion := c.planExclusion.read, directionChanged := c.directionChanged.read,
    beaconSkipped := c.beaconSkipped.read, sweepOverrun := c.sweepOverrun.read,
    transitionBlocked := c.transitionBlocked.read, hostFrameError := c.hostFrameError.read,
    noticeOverflow := c.noticeOverflow.read }

/-- STATUS clears every latch of a slot whose current value is false (R189). -/
def SlotLatches.read (c : SlotLatches) : SlotLatches :=
  { stepChange := c.stepChange.read, slip := c.slip.read, realigned := c.realigned.read,
    spillback := c.spillback.read, detectorFault := c.detectorFault.read, lineQuality := c.lineQuality.read,
    downloadFailed := c.downloadFailed.read }

/-- The Notice Unit after a STATUS: no notice leaves the queue (R189). -/
def NoticeUnit.statusRead (n : NoticeUnit) : NoticeUnit :=
  { n with corridor := n.corridor.read, slots := n.slots.mapSlot fun _ l => l.read }

/-- STATUS: the reply is composed, then the latches are cleared (R189). -/
def execStatus (s : State) : Result :=
  serve 0x02 (noArguments fun s => (.ok s.statusContent, s.setNotices s.notices.statusRead)) s

/-! ### SET NOTICE MASK (R190) -/

/-- Whether an item names a kind that has a mask, not named before, and gives a mask code (R190, R194; DEDUCED, log 18). Of
two items that name the same kind the second is the bad one (DEDUCED, log 46). -/
def maskItemOk (before : List (Nat × Nat)) (x : Nat × Nat) : Bool :=
  inRange 1 17 x.1 && x.1 != 9 && !(before.any fun y => y.1 == x.1) && decide (x.2 ≤ 1)

/-- The latched value and kind data of a per-slot kind. -/
def SlotLatches.latchedData (c : SlotLatches) : NoticeKind → Option KindData
  | .stepChange => if c.stepChange.latched then c.stepChange.data else none
  | .slip => if c.slip.latched then c.slip.data else none
  | .realigned => if c.realigned.latched then c.realigned.data else none
  | .spillback => if c.spillback.latched then c.spillback.data else none
  | .detectorFault => if c.detectorFault.latched then c.detectorFault.data else none
  | .lineQuality => if c.lineQuality.latched then c.lineQuality.data else none
  | .downloadFailed => if c.downloadFailed.latched then c.downloadFailed.data else none
  | .corridorState | .planCommitted | .planExclusion | .directionChanged | .beaconSkipped | .sweepOverrun
  | .transitionBlocked | .hostFrameError | .noticeOverflow | .cycleSummary => none

/-- The latched value and kind data of a corridor kind. -/
def CorridorLatches.latchedData (c : CorridorLatches) : NoticeKind → Option KindData
  | .corridorState => if c.corridorState.latched then c.corridorState.data else none
  | .planCommitted => if c.planCommitted.latched then c.planCommitted.data else none
  | .planExclusion => if c.planExclusion.latched then c.planExclusion.data else none
  | .directionChanged => if c.directionChanged.latched then c.directionChanged.data else none
  | .beaconSkipped => if c.beaconSkipped.latched then c.beaconSkipped.data else none
  | .sweepOverrun => if c.sweepOverrun.latched then c.sweepOverrun.data else none
  | .transitionBlocked => if c.transitionBlocked.latched then c.transitionBlocked.data else none
  | .hostFrameError => if c.hostFrameError.latched then c.hostFrameError.data else none
  | .noticeOverflow | .stepChange | .slip | .realigned | .spillback | .detectorFault | .lineQuality
  | .downloadFailed | .cycleSummary => none

/-- The notices that re-announce a kind: one for each latch of it that is set, slots ascending (R190). -/
def NoticeUnit.announcements (n : NoticeUnit) (stamp : NoticeStamp) (k : NoticeKind) : List Notice :=
  ((n.corridor.latchedData k).toList.map fun d =>
      { data := d, slot := none, stamp := stamp, again := true })
    ++ Slot.all.flatMap fun j =>
      ((n.slots.get j).latchedData k).toList.map fun d =>
        { data := d, slot := some j, stamp := stamp, again := true }

/-- Every mask is set at once; then each kind that has just become unmasked is re-announced, in the order of the
items (R190). -/
def NoticeUnit.setMasks (n : NoticeUnit) (stamp : NoticeStamp) (items : List (NoticeKind × Bool)) : NoticeUnit :=
  let masks := items.foldl (fun m x => m.set x.1 x.2) n.masks
  let again := items.flatMap fun x =>
    if !n.masks.unmasked x.1 && x.2 then n.announcements stamp x.1 else []
  again.foldl NoticeUnit.offer { n with masks := masks }

/-- SET NOTICE MASK's checks and effect (R190); the reply carries every mask, kind 9 as 0 (R198). -/
def setNoticeMask (body : List Byte) (s : State) : Reply × State :=
  match readMaskItems body with
  | none => (.refuse .badLength, s)
  | some items =>
    match firstBad maskItemOk 1 [] items with
    | some n => (.badValue n, s)
    | none =>
      let known := items.filterMap fun x => (NoticeKind.ofCode x.1).map fun k => (k, x.2 == 1)
      let s' := s.setNotices (s.notices.setMasks s.stamp known)
      (.ok (NoticeKind.all.map fun k => boolByte (s'.notices.masks.unmasked k)), s')

/-- SET NOTICE MASK (R190). -/
def execSetNoticeMask (s : State) : Result := serve 0x03 setNoticeMask s

end Sys2Proof.Machine
end

