-- ==== Sys2Proof/Machine/Reads.lean ====
section
/-! DEFINITION. READ JUNCTION (R187, R198). -/

namespace Sys2Proof.Machine

/-- The definition group: 0 for an undefined slot (R198). -/
def definitionContent : Option JunctionDef → List Byte
  | none => List.replicate 10 0
  | some j =>
    [1, u8 j.address] ++ u16 j.position ++ [u8 j.lanesIn, u8 j.lanesOut] ++ u16 j.lengthIn ++ u16 j.lengthOut

/-- The step group, with the window setting N (R121, R198). -/
def StepRecord.content (r : StepRecord) (n : Nat) : List Byte :=
  [u8 r.state.code, u8 r.cause.code, u8 r.window.length]
    ++ (r.window.map fun o => u8 o.code) ++ List.replicate (6 - r.window.length) 0xFF
    ++ [u8 n, u8 r.misses, u8 r.failures, u8 r.run, localModeByte r.localMode, u8 r.sweep.code]
    ++ optU16 r.measured ++ [boolByte r.error.isSome] ++ i16 (r.error.getD 0)

/-- The transition group, from the standing record (R96, R198). A slot with no record reports as the initial record,
seek state Off and everything absent (R187). -/
def TransitionRecord.content (r : TransitionRecord) : List Byte :=
  [u8 r.seek.code, u8 r.model.code] ++ optU16 r.model.offset ++ optU16 r.target ++ optU16 r.lastLength
    ++ i16 r.lastSkew ++ [boolByte r.pendingSkew.isSome] ++ i16 (r.pendingSkew.getD 0)

/-- One approach of the flow group (R60, R198); a slot with no records reports 0. -/
def Approach.content (a : Approach) : List Byte :=
  [u8 a.queue, boolByte a.spillback, boolByte a.reachedStorage, u8 a.high, u8 a.low,
   u8 ((if a.advanceFault then 2 else 0) + (if a.stopFault then 4 else 0))]

/-- The directory group (R143, R198). -/
def Directory.content (d : Directory) : List Byte :=
  (DirSlot.all.flatMap fun x => [u8 (d.get x).code, planByte (d.get x).plan]) ++ [u8 d.bits]

/-- An event latch with its count read as 0. -/
def EventLatch.uncounted (l : EventLatch) : EventLatch := { l with count := 0 }

/-- The latches of an undefined slot as READ JUNCTION reports them: their latched values stand until a STATUS, and every
count is 0 (R187, 10.5). -/
def SlotLatches.uncounted (c : SlotLatches) : SlotLatches :=
  { c with
    stepChange := c.stepChange.uncounted, slip := c.slip.uncounted, realigned := c.realigned.uncounted
    downloadFailed := c.downloadFailed.uncounted }

/-- The status group: the latches of a defined slot as they stand, those of an undefined one with no count (R187). -/
def State.latchContent (s : State) (k : Slot) : List Byte :=
  if s.defined k then (s.notices.slots.get k).report else (s.notices.slots.get k).uncounted.report

/-- What READ JUNCTION reports of a slot (R187, R198). -/
def State.junctionContent (s : State) (k : Slot) : List Byte :=
  let cap := s.corridor.capacity.get k
  let flow := (s.flow.approaches.get k).getD ⟨.initial, .initial⟩
  let q := s.line.quality.get k
  [u8 k.num] ++ definitionContent (s.corridor.table.get k) ++ [u8 cap.inbound, u8 cap.outbound]
    ++ (s.monitor.get k).content s.corridor.settings.slipWindow
    ++ ((s.transition.records.get k).getD .initial).content
    ++ optU16 (s.computedOffset k) ++ flow.inbound.content ++ flow.outbound.content
    ++ u16 q.count ++ [boolByte q.current] ++ (s.directory.dirs.get k).content
    ++ s.latchContent k

/-- READ JUNCTION's check and report; nothing changes (R187). -/
def readJunction (slot : Byte) (s : State) : Reply × State :=
  match slotArg slot with
  | none => (.badValue 0, s)
  | some k => (.ok (s.junctionContent k), s)

/-- READ JUNCTION (R187). -/
def execReadJunction (s : State) : Result := serve 0x07 (slotRequest readJunction) s

end Sys2Proof.Machine
end

