-- ==== Sys2Proof/Machine/Dispatch.lean ====
section
/-! DEFINITION. Every command and its meaning, one arm each. -/

namespace Sys2Proof.Machine

/-- The effect of a command on everything but the queue of commands. -/
def exec (i : Instr) (s : State) : Host.Outcome State Fault Refusal :=
  match i with
  | .coldReset => Sys2Proof.Machine.execColdReset s
  | .hostRecordReceived bytes => Sys2Proof.Machine.execHostRecordReceived bytes s
  | .hostGapTimeout => Sys2Proof.Machine.execHostGapTimeout s
  | .hostRecordBegin => Sys2Proof.Machine.execHostRecordBegin s
  | .hostRecordSent => Sys2Proof.Machine.execHostRecordSent s
  | .unknownKindRequest => Sys2Proof.Machine.execUnknownKindRequest s
  | .identify => Sys2Proof.Machine.execIdentify s
  | .status => Sys2Proof.Machine.execStatus s
  | .setNoticeMask => Sys2Proof.Machine.execSetNoticeMask s
  | .reset => Sys2Proof.Machine.execReset s
  | .defineJunction => Sys2Proof.Machine.execDefineJunction s
  | .removeJunction => Sys2Proof.Machine.execRemoveJunction s
  | .readJunction => Sys2Proof.Machine.execReadJunction s
  | .writePlan => Sys2Proof.Machine.execWritePlan s
  | .readPlan => Sys2Proof.Machine.execReadPlan s
  | .setCorridor => Sys2Proof.Machine.execSetCorridor s
  | .readCorridor => Sys2Proof.Machine.execReadCorridor s
  | .start => Sys2Proof.Machine.execStart s
  | .stop => Sys2Proof.Machine.execStop s
  | .switchPlan => Sys2Proof.Machine.execSwitchPlan s
  | .preloadPlan => Sys2Proof.Machine.execPreloadPlan s
  | .holdDirection => Sys2Proof.Machine.execHoldDirection s
  | .freeJunction => Sys2Proof.Machine.execFreeJunction s
  | .reseekJunction => Sys2Proof.Machine.execReseekJunction s
  | .seedQueue => Sys2Proof.Machine.execSeedQueue s
  | .injectSkew => Sys2Proof.Machine.execInjectSkew s
  | .readProgression => Sys2Proof.Machine.execReadProgression s
  | .loopbackTest => Sys2Proof.Machine.execLoopbackTest s
  | .loopbackBegin => Sys2Proof.Machine.execLoopbackBegin s
  | .testFrameBegin => Sys2Proof.Machine.execTestFrameBegin s
  | .loopbackFrameReceived chars => Sys2Proof.Machine.execLoopbackFrameReceived chars s
  | .loopbackComplete => Sys2Proof.Machine.execLoopbackComplete s
  | .cycleZero => Sys2Proof.Machine.execCycleZero s
  | .beaconBegin masterTime => Sys2Proof.Machine.execBeaconBegin masterTime s
  | .beaconWithdrawn => Sys2Proof.Machine.execBeaconWithdrawn s
  | .beaconSent => Sys2Proof.Machine.execBeaconSent s
  | .pollBegin => Sys2Proof.Machine.execPollBegin s
  | .downloadFrameBegin => Sys2Proof.Machine.execDownloadFrameBegin s
  | .exchangeFrameSent => Sys2Proof.Machine.execExchangeFrameSent s
  | .replyTimeout => Sys2Proof.Machine.execReplyTimeout s
  | .frameTruncated => Sys2Proof.Machine.execFrameTruncated s
  | .corridorFrameReceived chars carrierAfter prompt => Sys2Proof.Machine.execCorridorFrameReceived chars carrierAfter prompt s
  | .sweepDeadline => Sys2Proof.Machine.execSweepDeadline s
  | .computationComplete => Sys2Proof.Machine.execComputationComplete s
  | .downloadGuard => Sys2Proof.Machine.execDownloadGuard s
  | .lineQualityWindowEnd => Sys2Proof.Machine.execLineQualityWindowEnd s

end Sys2Proof.Machine
end

