-- ==== Sys2Proof/Safety.lean ====
section
/-! DEFINITION. What a legal state of the FC-12 is, in the terms the statements use. -/

namespace Sys2Proof.Machine

/-- The form of the junction table (R1, R2): every definition is in its ranges, addresses are distinct, and positions
increase strictly with slot index. -/
def LayoutForm (table : PerSlot (Option JunctionDef)) : Prop :=
  (∀ k d, table.get k = some d → d.checks.all id = true) ∧
  ∀ j k a b, table.get j = some a → table.get k = some b → j.num < k.num →
    a.address ≠ b.address ∧ a.position < b.position

/-- Every setting is in its range (the settings table of R183). -/
def SettingsInRange (s : Settings) : Prop := ∀ i : SettingId, i.inRange (s.value i) = true

/-- The request queue, the refusal list and the notice queue hold no more than their capacities (R180, R192). -/
def QueuesBounded (s : State) : Prop :=
  s.host.queue.length ≤ Config.requestQueueSize ∧ s.host.refusals ≤ Config.refusalListSize ∧
    s.notices.queue.length ≤ Config.noticeQueueSize

/-- The plan state agrees with the corridor state (R6, R9, R10, R12, R126, R167): nothing is active, pending or kept
in Idle; a plan is pending only in Starting and Running, and is never the active plan; in Starting no plan is active
and in Running one is; a starting plan is kept exactly outside Idle. -/
def PlanStateLegal (s : State) : Prop :=
  (s.corridor.state = .idle →
    s.directory.active = none ∧ s.directory.pending = none ∧ s.directory.deadline = 0) ∧
  (s.corridor.state = .starting → s.directory.active = none) ∧
  (s.corridor.state = .running → s.directory.active.isSome = true) ∧
  (s.corridor.state = .stopping → s.directory.pending = none) ∧
  (s.corridor.startingPlan.isSome = true ↔ s.corridor.state ≠ .idle) ∧
  ∀ p, s.directory.pending = some p → s.directory.active ≠ some p

/-- An approach record is legal for its storage capacity: the estimate is at most S, and is S while in spillback (R65,
R68). -/
def Approach.Legal (a : Approach) (cap : Nat) : Prop := a.queue ≤ cap ∧ (a.spillback = true → a.queue = cap)

/-- Every approach record is legal, and none exists in Idle (R60, R65, R68). -/
def FlowLegal (s : State) : Prop :=
  (s.corridor.state = .idle → ∀ k, s.flow.approaches.get k = none) ∧
  ∀ k b, s.flow.approaches.get k = some b →
    b.inbound.Legal (s.corridor.capacity.get k).inbound ∧ b.outbound.Legal (s.corridor.capacity.get k).outbound

/-- The records agree with the layout (R60, R80, R97, R129): outside Idle exactly the defined slots have a transition
record and approach records, and in Idle none has; exactly the undefined slots are Vacant; no two download orders are
for the same junction and plan. -/
def RecordsLegal (s : State) : Prop :=
  (∀ k, s.transition.records.get k ≠ none ↔ s.corridor.state ≠ .idle ∧ s.corridor.table.get k ≠ none) ∧
  (∀ k, s.flow.approaches.get k ≠ none ↔ s.corridor.state ≠ .idle ∧ s.corridor.table.get k ≠ none) ∧
  (∀ k, (s.monitor.get k).state = .vacant ↔ s.corridor.table.get k = none) ∧
  s.directory.orders.Pairwise fun a b => ¬ (a.slot = b.slot ∧ a.plan = b.plan)

/-- The transmit queue holds a beacon only while one waits, and then one alone, at its head; a beacon waits or is sent
only outside Idle, and one marked stopping only in Stopping (R11, R12, R152, R154). -/
def BeaconLegal (s : State) : Prop :=
  match s.line.beacon with
  | .waiting _ =>
    s.corridor.state ≠ .idle ∧ ∃ b rest, s.line.queue = .beacon b :: rest ∧ (∀ c, TxFrame.beacon c ∉ rest) ∧
      (b.stopping = true → s.corridor.state = .stopping)
  | .sending b =>
    s.corridor.state ≠ .idle ∧ (∀ c, TxFrame.beacon c ∉ s.line.queue) ∧
      (b.stopping = true → s.corridor.state = .stopping)
  | .none | .sent | .withdrawn => ∀ c, TxFrame.beacon c ∉ s.line.queue

/-- While plan `f` is the fallback plan, slot 0 of a directory, and slot 0 alone, may name it (R124). -/
def KeepsLock (f q : PlanNo) (x : DirSlot) : Prop := q = f ↔ x = .d0

/-- The directories agree with the download list and with the lock of slot 0 (R10, R122, R124, R129 to R134): a Loading
slot is the target of the order for its plan; an order that is not On line has its target, once it has one, Loading its
plan; in Idle and Stopping every order is On line and not to be retried; and while a fallback plan is set, no slot
breaks the lock, nor would it by its prior content, but for a download On line that is not to be retried, whose prior
content never comes back. -/
def DirectoryLegal (s : State) : Prop :=
  (∀ k x p mark prior, (s.directory.dirs.get k).get x = .loading p mark prior →
    ∃ o ∈ s.directory.orders, o.slot = k ∧ o.plan = p ∧ o.target = some x ∧
      ∀ f q, s.corridor.settings.fallback = some f → prior.plan = some q →
        KeepsLock f q x ∨ (o.stage = .onLine ∧ o.noRetry = true)) ∧
  (∀ o ∈ s.directory.orders, ∀ x, o.stage ≠ .onLine → o.target = some x →
    ∃ mark prior, (s.directory.dirs.get o.slot).get x = .loading o.plan mark prior) ∧
  ((s.corridor.state = .idle ∨ s.corridor.state = .stopping) →
    ∀ o ∈ s.directory.orders, o.stage = .onLine ∧ o.noRetry = true) ∧
  ∀ f k x q, s.corridor.settings.fallback = some f → ((s.directory.dirs.get k).get x).plan = some q → KeepsLock f q x

/-- A request of kind `kind` with body `body` is at the head of the request queue and may be taken (R180). -/
def State.AtHead (s : State) (kind : Nat) (body : List Byte) (r : Request) : Prop :=
  s.host.serving = false ∧ s.host.queue.head? = some r ∧ r.kind.toNat = kind ∧ r.body = body

/-- The transmitter is Free and the line is quiet, so that a frame may begin (R148). -/
def Line.Ready (l : Line) : Prop := l.transmitter = .free ∧ l.carrier = false ∧ l.assembly = none

end Sys2Proof.Machine
end

