-- ==== Sys2Proof/Certificates/Slice0/Obligations.lean ====
section
/-! DEFINITION. The statements for the provers. -/

open Sys2Proof Sys2Proof.Machine

namespace Sys2Proof.Claims

/-- The host link once request `r` has been answered (R180, R181, R195): the reply waits for the transmitter, and the
request keeps its place at the head of the queue. -/
def answered (h : HostLink) (r : Request) (result : ResultCode) (content : List Byte) : HostLink :=
  { h with
    serving := true
    outbox := h.outbox ++
      [{ source := .reply, kind := replyKind r.kind, tag := r.tag, body := u8 result.code :: content }] }

/-- A byte that is no slot number (R194, R197). -/
def NoSlot (b : Byte) : Prop := b.toNat = 0 ∨ 12 < b.toNat

/-- A byte that is the number of slot `k`. -/
def IsSlot (b : Byte) (k : Slot) : Prop := b.toNat = k.num

/-- Junction `k` holds plan `p` Valid in some directory slot (R122, R126). -/
def HoldsValid (s : State) (k : Slot) (p : PlanNo) : Prop := ∃ x, (s.directory.dirs.get k).get x = .valid p

/-- A plan is complete for the current layout (R23). -/
def Complete (s : State) (p : PlanNo) : Prop :=
  (s.plans.get p).cycle ≠ none ∧ (∀ k, s.corridor.table.get k ≠ none → (s.plans.get p).green.get k ≠ none) ∧
    (s.plans.get p).sIn ≠ none ∧ (s.plans.get p).sOut ≠ none ∧
    (∃ k, (s.plans.get p).ref = some k ∧ s.corridor.table.get k ≠ none) ∧ (s.plans.get p).oRef ≠ none

/-- A plan is in use (R25). -/
def InUse (s : State) (p : PlanNo) : Prop :=
  s.directory.active = some p ∨ (s.corridor.settings.fallback = some p ∧ s.corridor.state ≠ .idle) ∨
    (s.corridor.startingPlan = some p ∧ s.corridor.state = .stopping ∧ s.directory.active = none)

/-- The beacon of the cycle is sent or withdrawn, its sweep and computation are over, and the download period is
closed: the next cycle zero may fall (R15, R36, R159). -/
def CycleFinished (s : State) : Prop :=
  s.corridor.state ≠ .idle ∧ (∀ n, s.line.beacon ≠ .waiting n) ∧ (∀ b, s.line.beacon ≠ .sending b) ∧
    s.line.sweep = none ∧ s.engine.inFlight = none ∧ s.line.period = false

/-- The junctions that must hold a plan for its commit to be complete (R121, R138). -/
def InCommitSet (s : State) (k : Slot) : Prop :=
  s.corridor.table.get k ≠ none ∧
    ((s.corridor.state = .running ∧
        ((s.monitor.get k).state = .absent ∨ (s.monitor.get k).state = .seeking ∨
          (s.monitor.get k).state = .confirming ∨ (s.monitor.get k).state = .inStep)) ∨
      (s.corridor.state = .starting ∧ (s.monitor.get k).state = .startingFree ∧
        (s.monitor.get k).sweep = .answered))

/-- The first condition of R138. -/
def CommitReady (s : State) (p : PlanNo) : Prop :=
  (∀ k, InCommitSet s k → HoldsValid s k p) ∧ (s.corridor.state = .starting → ∃ k, InCommitSet s k)

/-- The plan the clock runs on: the active plan, or the starting plan while none is active (R13, R167). -/
def InForce (s : State) (p : PlanNo) : Prop :=
  s.directory.active = some p ∨ (s.directory.active = none ∧ s.corridor.startingPlan = some p)

/-- A cycle zero commits the pending plan `p`: the first condition of R138 holds, or the count runs out. -/
def Commits (s : State) (p : PlanNo) : Prop :=
  s.directory.pending = some p ∧ (CommitReady s p ∨ s.directory.deadline ≤ 1)

/-- The clock runs on plan `p` from this cycle zero on (R13, R139, R167). -/
def ComesIntoForce (s : State) (p : PlanNo) : Prop := Commits s p ∨ ((∀ q, ¬ Commits s q) ∧ InForce s p)

/-- The part listens on the line, with nothing in its receive buffer, in the open window of exchange `e` (R151). -/
def Listening (s : State) (e : Exchange) : Prop :=
  s.line.transmitter = .awaiting ∧ s.line.exchange = some e ∧ e.window ≠ none ∧ e.address < 256 ∧
    s.line.assembly = none ∧ s.line.unchecked = []

/-- A notice on the link, `backlog` notices waiting behind it: the layout of R196. -/
def noticeBytes (n : Notice) (backlog : Nat) : List Byte :=
  [u8 n.data.kind.code, (match n.slot with | none => 0 | some k => u8 k.num), u8 n.stamp.sequence, u8 backlog,
    boolByte n.again, u8 n.data.bytes.length] ++ n.data.bytes

/-- What a damaged record does at the Notice Unit (R179, R190 to R192): HOST_FRAME_ERROR's latch rises with its fault;
while the kind is unmasked a notice of it joins the queue, or is dropped when the queue holds 32, in which case
NOTICE_OVERFLOW counts it. Nothing else changes there. -/
def RaisesHostFrameError (s t : State) (f : HostFault) : Prop :=
  t.notices.slots = s.notices.slots ∧ t.notices.masks = s.notices.masks ∧
    t.notices.corridor = { s.notices.corridor with
      hostFrameError :=
        { latched := true, count := min 255 (s.notices.corridor.hostFrameError.count + 1)
          data := some (.hostFrameError f) }
      noticeOverflow := t.notices.corridor.noticeOverflow } ∧
    (s.notices.masks.hostFrameError = false →
      t.notices.queue = s.notices.queue ∧
        t.notices.corridor.noticeOverflow = s.notices.corridor.noticeOverflow) ∧
    (s.notices.masks.hostFrameError = true → s.notices.queue.length < 32 →
      t.notices.queue = s.notices.queue ++
          [{ data := .hostFrameError f, slot := none, stamp := s.stamp, again := false }] ∧
        t.notices.corridor.noticeOverflow = s.notices.corridor.noticeOverflow) ∧
    (s.notices.masks.hostFrameError = true → 32 ≤ s.notices.queue.length →
      t.notices.queue = s.notices.queue ∧
        t.notices.corridor.noticeOverflow =
          { latched := true, count := min 255 (s.notices.corridor.noticeOverflow.count + 1), data := none })

/-- A new download order (R129). -/
def newOrder (p : PlanNo) (k : Slot) : Order :=
  { slot := k, plan := p, stage := .waiting, attempts := 0, target := none, content := none, noRetry := false }

/-- Slots in strictly ascending order. -/
def Ascending (ks : List Slot) : Prop := ks.Pairwise fun j k => j.num < k.num

/-- Some slot of junction `k`'s directory is Loading plan `p` (R122). -/
def LoadingAt (s : State) (k : Slot) (p : PlanNo) : Prop :=
  ∃ x mark prior, (s.directory.dirs.get k).get x = .loading p mark prior

/-- Some order of the list is for junction `k` and plan `p` (R129). -/
def OrderedAt (orders : List Order) (k : Slot) (p : PlanNo) : Prop := ∃ o ∈ orders, o.slot = k ∧ o.plan = p

/-- Plan `p` is needed at junction `k` (R129). -/
def NeededAt (s : State) (k : Slot) (p : PlanNo) : Prop :=
  (¬ HoldsValid s k p ∧
    ((s.directory.pending = some p ∧ (s.corridor.state = .starting ∨ s.corridor.state = .running)) ∨
      (s.directory.active = some p ∧ s.corridor.state = .running))) ∨
    (s.corridor.settings.fallback = some p ∧ (s.corridor.state = .starting ∨ s.corridor.state = .running) ∧
      (s.directory.dirs.get k).d0 ≠ .valid p)

/-- New orders have joined the end of the list: one for each plan that is needed at a defined junction and had neither
an order there nor a slot Loading it, and no other (R129). -/
def OrdersCreated (s t : State) : Prop :=
  ∃ new : List Order, t.directory.orders = s.directory.orders ++ new ∧
    (new.Pairwise fun a b => ¬ (a.slot = b.slot ∧ a.plan = b.plan)) ∧
    ∀ o, o ∈ new ↔ o = newOrder o.plan o.slot ∧ t.corridor.table.get o.slot ≠ none ∧ NeededAt t o.slot o.plan ∧
      ¬ OrderedAt s.directory.orders o.slot o.plan ∧ ¬ LoadingAt s o.slot o.plan

/-- The conditions on which PRELOAD PLAN creates an order for plan `p` at junction `k` (R129, R137). -/
def PreloadWanted (s : State) (p : PlanNo) (k : Slot) : Prop :=
  s.corridor.table.get k ≠ none ∧ ¬ HoldsValid s k p ∧ ¬ OrderedAt s.directory.orders k p ∧
    ∀ q, LoadingAt s k q → q ≠ p ∧ (s.directory.active = some q ∨ s.directory.pending = some q ∨
      s.corridor.settings.fallback = some q)

/-- The directory after a use of one of its slots (R123). -/
def used (d : Directory) : DirSlot → Directory
  | .d0 => { d with top := true, bitA := true }
  | .d1 => { d with top := true, bitA := false }
  | .d2 => { d with top := false, bitB := true }
  | .d3 => { d with top := false, bitB := false }

/-- A directory slot of junction `k` that is barred for the placement of plan `p` (R127). -/
def Barred (s : State) (k : Slot) (p : PlanNo) (x : DirSlot) : Prop :=
  (x = .d0 ∧ ∃ f, s.corridor.settings.fallback = some f ∧ f ≠ p) ∨
    (∃ q, ((s.directory.dirs.get k).get x).plan = some q ∧
      (s.directory.active = some q ∨ s.directory.pending = some q)) ∨
    ∃ o ∈ s.directory.orders, o.slot = k ∧ o.stage = .onLine ∧ o.target = some x

/-- The lowest-numbered directory slot of a kind. -/
def Lowest (P : DirSlot → Prop) (x : DirSlot) : Prop := P x ∧ ∀ y : DirSlot, y.num < x.num → ¬ P y

/-- The order in which a victim is sought: the PLRU slot, its sibling, the slot that the other pair's bit points to,
and that slot's sibling (R123, R128). -/
def victimOrder (d : Directory) : List DirSlot :=
  let lower : List DirSlot := if d.bitA then [.d1, .d0] else [.d0, .d1]
  let upper : List DirSlot := if d.bitB then [.d3, .d2] else [.d2, .d3]
  if d.top then upper ++ lower else lower ++ upper

/-- The directory slot of junction `k` in which plan `p` is placed: the first step of R127 that applies, with R128 for
its fifth. -/
def PlacedAt (s : State) (k : Slot) (p : PlanNo) (x : DirSlot) : Prop :=
  let d := s.directory.dirs.get k
  let holding : DirSlot → Prop := fun y => (d.get y).plan = some p
  let empty : DirSlot → Prop := fun y => d.get y = .empty ∧ ¬ Barred s k p y
  let stale : DirSlot → Prop := fun y => (∃ q, d.get y = .stale q) ∧ ¬ Barred s k p y
  (s.corridor.settings.fallback = some p ∧ x = .d0) ∨
    (s.corridor.settings.fallback ≠ some p ∧
      (Lowest holding x ∨ (∀ y, ¬ holding y) ∧
        (Lowest empty x ∨ (∀ y, ¬ empty y) ∧
          (Lowest stale x ∨ (∀ y, ¬ stale y) ∧
            ∃ before after, victimOrder d = before ++ x :: after ∧ ¬ Barred s k p x ∧
              ∀ y ∈ before, Barred s k p y))))

/-- What the target slot of a withdrawn order becomes when no other order of its junction is withdrawn with it: Empty
once a frame has been sent; else its prior content, or Empty where another slot now holds that plan (R133). -/
def withdrawnSlot (d : Directory) (x : DirSlot) (o : Order) : Content → SlotContent
  | .empty => .empty
  | .valid q =>
    if o.attempts = 1 ∧ o.stage = .queued ∧ ∀ y ∈ DirSlot.all, y ≠ x → (d.get y).plan ≠ some q then .valid q
    else .empty
  | .stale q =>
    if o.attempts = 1 ∧ o.stage = .queued ∧ ∀ y ∈ DirSlot.all, y ≠ x → (d.get y).plan ≠ some q then .stale q
    else .empty

/-- No frame would be queued as the orders stand: the download period is closed, the transmit queue holds 4 frames, or
no order is Waiting (R130). -/
def QueuesNoFrame (s : State) : Prop :=
  s.line.period = false ∨ 4 ≤ s.line.queue.length ∨ ∀ y ∈ s.directory.orders, y.stage ≠ .waiting

/-- A download exchange ends with no acceptance, by `event`, and leaves the line as `after`: at the end of its window,
or by an IMAGE ACK that reports the load refused or names another slot or plan than the frame did (R132, R153, R177).
-/
def EndsUnaccepted (s : State) (e : Exchange) (o : Order) (x : DirSlot) (event : Instr) (timedOut : Bool)
    (after : Line) : Prop :=
  (event = .replyTimeout ∧ timedOut = true ∧
    after = { s.line with exchange := none, transmitter := .free, txChars := [] }) ∨
  ∃ (result slot plan : Byte) (carrier : Bool),
    (result ≠ 0 ∨ slot.toNat ≠ x.num ∨ plan.toNat ≠ o.plan.num) ∧
    event = .corridorFrameReceived (lineFrame e.address 0x83 [result, slot, plan]) carrier true ∧ timedOut = false ∧
    after = { s.line with
      exchange := none, transmitter := .free, txChars := [], carrier := carrier, quietFor := none }

/-- The effect of a refusal or a timeout on order `o`, whose target `x` is Loading its plan (R132): a retry while
attempts are left and none is forbidden, else a failed download. -/
def LoadFails (s t : State) (o : Order) (x : DirSlot) (timedOut : Bool) : Prop :=
  (o.attempts < 3 → o.noRetry = false →
    t.directory = { s.directory with orders := s.directory.orders.map fun y =>
      if y.slot = o.slot ∧ y.plan = o.plan then { y with stage := .waiting } else y } ∧
    t.notices = s.notices) ∧
  ((3 ≤ o.attempts ∨ o.noRetry = true) →
    t.directory = { s.directory with
      dirs := s.directory.dirs.set o.slot ((s.directory.dirs.get o.slot).set x .empty)
      orders := s.directory.orders.filter fun y => !(decide (y.slot = o.slot ∧ y.plan = o.plan)) } ∧
    (t.notices.slots.get o.slot).downloadFailed =
      { latched := true, count := min 255 ((s.notices.slots.get o.slot).downloadFailed.count + 1)
        data := some (.downloadFailed o.plan x o.attempts timedOut) })

/-! ### A cycle report on the line -/

/-- The bytes of a CYCLE REPORT after its echo: U, running slot, local mode, and arrivals, departures, occupancy and
flags of the inbound and the outbound approach (R200). -/
structure ReportBytes where
  (u1 u0 running mode ai di oi fi ao dO oo fo : Byte)

/-- U, from its twelve bits (R175). -/
def ReportBytes.u (r : ReportBytes) : Nat := readU16 r.u1 r.u0 % 4096

/-- One approach of a report, its occupancy limited to 100 and stray flag bits disregarded (R175, R200). -/
def approachOf (a d o f : Byte) : ApproachReport :=
  { arrivals := a.toNat, departures := d.toNat, occupancy := min 100 o.toNat
    queueCleared := f.getLsbD 0, advanceFault := f.getLsbD 1, stopFault := f.getLsbD 2 }

/-- The inbound approach of a report. -/
def ReportBytes.inbound (r : ReportBytes) : ApproachReport := approachOf r.ai r.di r.oi r.fi

/-- The outbound approach of a report. -/
def ReportBytes.outbound (r : ReportBytes) : ApproachReport := approachOf r.ao r.dO r.oo r.fo

/-- A report that is well-formed, in local mode `m` (R175). -/
def ReportBytes.Formed (r : ReportBytes) (m : LocalMode) : Prop := r.running.toNat ≤ 3 ∧ r.mode.toNat = m.code

/-- The body of a report that echoes `echo` (R200). -/
def ReportBytes.body (r : ReportBytes) (echo : Byte) : List Byte :=
  [echo, r.u1, r.u0, r.running, r.mode, r.ai, r.di, r.oi, r.fi, r.ao, r.dO, r.oo, r.fo]

/-- The arrival of the whole frame of a report that echoes `sequence`, from the exchange's junction, checked at
once. -/
def ReportBytes.arrives (r : ReportBytes) (e : Exchange) (sequence : Nat) (carrier : Bool) : Instr :=
  .corridorFrameReceived (lineFrame e.address 0x82 (r.body (u8 sequence))) carrier true

/-- The part listens in the window of a poll of the sweep `w`. -/
def Polling (s : State) (e : Exchange) (w : Sweep) : Prop :=
  Listening s e ∧ e.kind = .poll ∧ s.line.sweep = some w ∧ w.sequence < 256

/-- The part listens in the window of a poll of the sweep `w`, with a further slot still to be polled. -/
def AwaitsReport (s : State) (e : Exchange) (w : Sweep) : Prop := Polling s e w ∧ w.waiting ≠ []

/-- The junction of exchange `e` has the alignment memory `m`, of a cycle that is not empty (R99). -/
def Remembers (s : State) (e : Exchange) (m : Memory) : Prop :=
  (s.monitor.get e.slot).memory = some m ∧ 0 < m.cycle

/-- The measured offset M = (lateness + U) mod C (R101). -/
def measuredOf (m : Memory) (u : Nat) : Nat := (m.lateness + u) % m.cycle

/-- The step record after the steps that every valid report takes (R100). -/
def reported (r : StepRecord) (mode : LocalMode) (measured : Nat) : StepRecord :=
  { r with sweep := .answered, localMode := some mode, misses := 0, measured := some measured }

/-- The report's local mode takes the junction from the corridor (R108). -/
def Overrides (s : State) (mode : LocalMode) : Prop :=
  s.corridor.settings.yieldToLocal = true ∧ (mode = .manual ∨ mode = .flash)

/-- The difference of two offsets, moved by whole cycles into -C < 2e <= C (R102). -/
def IsError (c : Nat) (difference e : Int) : Prop := -(c : Int) < 2 * e ∧ 2 * e ≤ c ∧ ∃ z : Int, difference = e + z * c

/-- A judged report of error `e` matches (R102). -/
def Matches (s : State) (m : Memory) (r : ReportBytes) (mode : LocalMode) (e : Int) : Prop :=
  e.natAbs ≤ s.corridor.settings.tolerance ∧ r.running.toNat = m.slot.num ∧ mode = .coordinated

/-- The mismatch kind of a judged report of error `e` that does not match: the first test that fails (R102). -/
def mismatchKind (s : State) (m : Memory) (r : ReportBytes) (e : Int) : Mismatch :=
  if s.corridor.settings.tolerance < e.natAbs then .offset
  else if r.running.toNat ≠ m.slot.num then .slot else .mode

/-- The slip window after an outcome joins: the newest end grows, and the oldest leave until it holds no more than N
(R106). -/
def joined (n : Nat) (w : List WindowOutcome) (o : WindowOutcome) : List WindowOutcome :=
  (w ++ [o]).drop (w.length + 1 - n)

/-- A miss of the junction counts: it is Seeking, Confirming or InStep (R109). -/
def CountsMisses (r : StepRecord) : Prop := r.state = .seeking ∨ r.state = .confirming ∨ r.state = .inStep

/-- What a miss does to slot `k` (R81, R109, R110): in Seeking, Confirming and InStep it counts, and in InStep it joins
the window; the third in a row makes the junction Absent and, with no tentative copy standing, suspends its model; in
every other state it is noted alone. -/
def MissedAt (s t : State) (k : Slot) : Prop :=
  let old := s.monitor.get k
  let seen : StepRecord := { old with
    sweep := .missed, misses := old.misses + 1
    window := if old.state = .inStep then joined s.corridor.settings.slipWindow old.window .miss else old.window }
  (¬ (CountsMisses old ∧ old.misses = 2) → t.transition.records.get k = s.transition.records.get k ∧
      (t.notices.slots.get k).stepChange = (s.notices.slots.get k).stepChange) ∧
    (CountsMisses old → old.misses ≠ 2 → t.monitor.get k = seen) ∧
    (CountsMisses old → old.misses = 2 →
      t.monitor.get k = { seen with state := .absent, run := 0 } ∧
        (t.notices.slots.get k).stepChange.data = some (.stepChange old.state .absent .miss) ∧
        ∀ x o, s.transition.tentative = none → s.transition.records.get k = some x → x.model = .valid o →
          t.transition.records.get k = some { x with model := .retained o }) ∧
    (¬ CountsMisses old → t.monitor.get k = { old with sweep := .missed })

/-- Slot `k` has its step record, its transition record and its latches as before. -/
def KeptAt (s t : State) (k : Slot) : Prop :=
  t.monitor.get k = s.monitor.get k ∧ t.transition.records.get k = s.transition.records.get k ∧
    t.notices.slots.get k = s.notices.slots.get k

/-- No other slot than `k` has a record or a latch changed, nor does any mask or corridor latch change but
NOTICE_OVERFLOW, which counts the notices that find the queue full (R192). -/
def OnlySlot (s t : State) (k : Slot) : Prop :=
  (∀ j, j ≠ k → KeptAt s t j) ∧ t.notices.masks = s.notices.masks ∧
    t.notices.corridor = { s.notices.corridor with noticeOverflow := t.notices.corridor.noticeOverflow }

/-- The miss of slot `k` alone: every other slot keeps its records. -/
def Missed (s t : State) (k : Slot) : Prop :=
  (∀ j, j ≠ k → t.monitor.get j = s.monitor.get j ∧ t.transition.records.get j = s.transition.records.get j) ∧
    MissedAt s t k ∧
    (¬ (CountsMisses (s.monitor.get k) ∧ (s.monitor.get k).misses = 2) → t.transition = s.transition)

/-- A frame whose first character began within the open window of exchange `e` is in assembly (R149, R151). -/
def InWindow (s : State) (e : Exchange) (f : RxFrame) : Prop :=
  s.line.assembly = some f ∧ f.tag = some { slot := e.slot, address := e.address, live := true }

/-- The characters of a whole frame with the check bytes `c1` and `c0` (R145). -/
def frameWith (address kind : Byte) (body : List Byte) (c1 c0 : Byte) : List LineChar :=
  ([0xFF, 0xFF, 0xFF, 0x5A, address, kind, u8 body.length] ++ body ++ [c1, c0]).map sendChar

/-- The exchange of a poll is over and the transmitter Free; beside the line, only the records of the Step Monitor and
the Transition Unit, the notices and the count of free values may differ. -/
def PollOver (s t : State) : Prop :=
  t = { s with
    line := { s.line with
      exchange := none, transmitter := .free, txChars := [], assembly := none, unchecked := t.line.unchecked
      carrier := t.line.carrier, quietFor := t.line.quietFor, sweep := t.line.sweep, quality := t.line.quality }
    monitor := t.monitor, transition := t.transition, notices := t.notices, free := t.free }

/-- A poll of the sweep `w`, with a further slot still to be polled, ends with no acceptable reply: attempt 1 is polled
again as attempt 2, and nothing reaches the Step Monitor; after attempt 2 a miss does, and the slot leaves the sweep
(R158). -/
def PollFails (s t : State) (e : Exchange) (w : Sweep) : Prop :=
  PollOver s t ∧
    (e.attempt = 1 → t.line.sweep = some { w with current := some (e.slot, 2) } ∧ t.monitor = s.monitor ∧
      t.transition = s.transition) ∧
    (e.attempt = 2 → t.line.sweep = some { w with current := none } ∧ Missed s t e.slot)

/-- A bad frame of exchange `e` counts against its slot, while that is still defined at the exchange's address: the
count grows by one, up to 65535, and where it then exceeds the threshold LINE_QUALITY rises (R161). -/
def CountsAsBad (s t : State) (e : Exchange) : Prop :=
  (∀ k, k ≠ e.slot → t.line.quality.get k = s.line.quality.get k) ∧
    ((∀ j, s.corridor.table.get e.slot = some j → j.address ≠ e.address) → t.line.quality = s.line.quality) ∧
    ∀ j n, s.corridor.table.get e.slot = some j → j.address = e.address →
      n = min 65535 ((s.line.quality.get e.slot).count + 1) →
      (t.line.quality.get e.slot).count = n ∧
        ((t.line.quality.get e.slot).current = true ↔ (s.line.quality.get e.slot).current = true ∨
          s.corridor.settings.qualityThreshold < n) ∧
        ((s.line.quality.get e.slot).current = false → s.corridor.settings.qualityThreshold < n →
          (s.notices.slots.get e.slot).lineQuality.current = false →
          (t.notices.slots.get e.slot).lineQuality =
            { latched := true, current := true
              data := some (.lineQuality n s.corridor.settings.qualityThreshold) })

/-- Junction `k` has been resynced to the measured offset: with no tentative copy standing its model is valid at M plus
the last adjustment, mod C (R91). -/
def Resynced (s t : State) (k : Slot) (measured : Nat) : Prop :=
  s.transition.tentative = none → ∀ x, s.transition.records.get k = some x →
    t.transition.records.get k =
      some { x with model := .valid (((measured : Int) + x.lastAdj) % (s.clock.length : Int)).toNat }

/-- The approach record after a report, the storage of the approach being `cap` (R63 to R68). -/
def Estimated (a a' : Approach) (cap setting : Nat) (x : ApproachReport) : Prop :=
  ∃ dep arr occ : Nat,
    dep = (if x.stopFault then a.heldDepartures else x.departures) ∧
    arr = (if x.advanceFault then dep else x.arrivals) ∧
    occ = (if x.advanceFault then a.heldOccupancy else x.occupancy) ∧
    a'.heldDepartures = dep ∧ a'.heldOccupancy = occ ∧ a'.advanceFault = x.advanceFault ∧
    a'.stopFault = x.stopFault ∧
    (setting ≤ occ → a'.high = min 2 (a.high + 1) ∧ a'.low = 0) ∧
    (occ < setting → a'.low = min 2 (a.low + 1) ∧ a'.high = 0) ∧
    (a'.reachedStorage = true ↔
      (a.reachedStorage = true ∨ cap + dep ≤ a.queue + arr) ∧ (x.queueCleared = true → x.stopFault = true)) ∧
    (a'.spillback = true ↔ a'.high = 2 ∨ a'.reachedStorage = true ∨ (a.spillback = true ∧ a'.low ≠ 2)) ∧
    a'.queue =
      (if a'.spillback then cap
        else if x.queueCleared && !x.stopFault then 0 else min cap (a.queue + arr - dep))

/-! ### Steering and progression -/

/-- A model with its offset taken mod C (R94). -/
def reduced (c : Nat) : Model → Model
  | .none => .none
  | .retained o => .retained (o % c)
  | .valid o => .valid (o % c)

/-- The commands of the junctions that are steered: RUN outside Stopping, in the four states that yield it (R98). -/
def RunCommanded (s : State) (k : Slot) : Prop :=
  s.corridor.state ≠ .stopping ∧
    ((s.monitor.get k).state = .absent ∨ (s.monitor.get k).state = .seeking ∨
      (s.monitor.get k).state = .confirming ∨ (s.monitor.get k).state = .inStep)

/-- Delaying by `d` takes no more cycles than advancing by C - d, a count being unbounded when its limit is 0 (R86). -/
def Delays (c long short d : Nat) : Prop :=
  long ≠ 0 ∧ (short = 0 ∨ (d + long - 1) / long ≤ (c - d + short - 1) / short)

/-- Seek state and adjustment of a RUN entry, the lengthen and shorten limits being `long` and `short` (R84, R86). -/
def Steered (c long short : Nat) : Model → Option Nat → SeekState → Int → Prop
  | .none, _, seek, adj => seek = .unmodelled ∧ adj = 0
  | .retained _, _, seek, adj => seek = .unmodelled ∧ adj = 0
  | .valid _, none, seek, adj => seek = .aligned ∧ adj = 0
  | .valid o, some target, seek, adj =>
    ∃ d, d < c ∧ (∃ z : Int, (target : Int) - o = d + z * c) ∧
      (d = 0 → seek = .aligned ∧ adj = 0) ∧
      (d ≠ 0 → long = 0 → short = 0 → seek = .blocked ∧ adj = 0) ∧
      (d ≠ 0 → Delays c long short d → seek = .lengthening ∧ adj = (min d long : Nat)) ∧
      (d ≠ 0 → ¬ (long = 0 ∧ short = 0) → ¬ Delays c long short d →
        seek = .shortening ∧ adj = -((min (c - d) short : Nat) : Int))

/-- The model after the assembly of a RUN entry (R87). -/
def Advanced (c : Nat) (adj : Int) : Model → Model → Prop
  | .none, m => m = .none
  | .retained o, m => m = .retained o
  | .valid o, m => ∃ o' z : Int, 0 ≤ o' ∧ o' < c ∧ (o : Int) + adj = o' + z * c ∧ m = .valid o'.toNat

/-- Commanded length and use of a skew of a RUN entry (R87, R88). -/
def Commanded (c long short : Nat) (adj : Int) : Option Int → SkewUse → Nat → Prop
  | none, use, length => use = .untouched ∧ (length : Int) = c + adj
  | some a, use, length =>
    use = .applied ((length : Int) - c - adj) ∧
      (length : Int) = max ((c : Int) - short) (min ((c : Int) + long) (c + adj + a))

/-- `a` and `b` are neighbouring defined slots of a snapshot, `a` the inner one. -/
def Linked (n : Snapshot) (a b : Slot) : Prop :=
  n.slots.get a ≠ none ∧ n.slots.get b ≠ none ∧ a.num < b.num ∧
    ∀ m : Slot, a.num < m.num → m.num < b.num → n.slots.get m = none

/-- Travel time over `d` metres at `v` dm/s: the floor of (200 d + v) / 2v (R39). -/
def TravelTime (d v time : Nat) : Prop := 2 * v * time ≤ 200 * d + v ∧ 200 * d + v < 2 * v * (time + 1)

/-- The clearance of an approach with queue `q`, limited to half the green (R40). -/
def clearanceOf (n : Snapshot) (q green : Nat) : Nat := min (n.loss + q * n.headway) (green / 2)

/-- The weight W of a snapshot, in sixteenths (R44). -/
def weightOf (n : Snapshot) : Nat :=
  match n.mode with
  | .inbound => n.wIn
  | .outbound => n.wOut
  | .balanced => 8

/-- `d` is N / 16 rounded to the nearest integer, an exact half away from zero (R45). -/
def Sixteenth (numerator d : Int) : Prop :=
  (0 ≤ numerator → 16 * d - 8 ≤ numerator ∧ numerator < 16 * d + 8) ∧
    (numerator < 0 → 16 * d - 8 < numerator ∧ numerator ≤ 16 * d + 8)

/-- The difference Δ of the link between neighbours `a` and `b` (R39 to R45). -/
def LinkDifference (n : Snapshot) (a b : Slot) (xa xb : SnapSlot) (delta : Int) : Prop :=
  ∃ (tIn tOut : Nat) (leaveIn leaveOut : Nat) (dIn dOut moved z : Int),
    TravelTime (xb.position - xa.position) n.sIn tIn ∧ TravelTime (xb.position - xa.position) n.sOut tOut ∧
    ((∀ m : Slot, b.num < m.num → n.slots.get m = none) → leaveIn = 0) ∧
    ((∃ m : Slot, b.num < m.num ∧ n.slots.get m ≠ none) → leaveIn = clearanceOf n xb.queueIn xb.green) ∧
    ((∀ m : Slot, m.num < a.num → n.slots.get m = none) → leaveOut = 0) ∧
    ((∃ m : Slot, m.num < a.num ∧ n.slots.get m ≠ none) → leaveOut = clearanceOf n xa.queueOut xa.green) ∧
    dIn = (clearanceOf n xa.queueIn xa.green : Int) - tIn - leaveIn ∧
    dOut = (leaveOut : Int) + tOut - clearanceOf n xb.queueOut xb.green ∧
    moved = dOut + z * n.cycle ∧ -(n.cycle : Int) < 2 * (moved - dIn) ∧ 2 * (moved - dIn) ≤ n.cycle ∧
    Sixteenth ((weightOf n : Int) * dIn + (16 - (weightOf n : Int)) * moved) delta

/-- `position` of a slot in travel time: across each link it grows by the travel time at speed `v` (R39, R49). -/
def TravelsAt (n : Snapshot) (v : Nat) (position : Slot → Int) : Prop :=
  ∀ a b xa xb, Linked n a b → n.slots.get a = some xa → n.slots.get b = some xb →
    ∃ time, TravelTime (xb.position - xa.position) v time ∧ position b = position a + time

/-- The band of a walk over two junctions: the arriving window [s, e) is cut down to the usable part of the latest
green of the second at or before s, or, where that is empty, of the next; its offset is `offset`, its clearance
`clear`, its green `green` (R50, R51). -/
def CutBand (c : Nat) (s e : Int) (offset clear green band : Nat) : Prop :=
  ∃ g z : Int, g = offset + z * c ∧ g ≤ s ∧ s < g + c ∧
    (max s (g + clear) < min e (g + green) → (band : Int) = min e (g + green) - max s (g + clear)) ∧
    (min e (g + green) ≤ max s (g + clear) → max s (g + c + clear) < min e (g + c + green) →
      (band : Int) = min e (g + c + green) - max s (g + c + clear)) ∧
    (min e (g + green) ≤ max s (g + clear) → min e (g + c + green) ≤ max s (g + c + clear) → band = 0)

/-- The volumes of the cycle lie below the minimum volume (R75). -/
def Thin (g : Settings) (f : Flow) : Prop := f.volumeIn + f.volumeOut < g.minimumVolume

/-- The candidate mode of a sweep complete (R75). -/
def Candidate (g : Settings) (f : Flow) (ratio : Nat) (m : Mode) : Prop :=
  (Thin g f → m = f.mode) ∧
    (¬ Thin g f → g.inboundEntry ≤ ratio → m = .inbound) ∧
    (¬ Thin g f → ratio < g.inboundEntry → ratio ≤ g.outboundEntry → m = .outbound) ∧
    (¬ Thin g f → ratio < g.inboundEntry → g.outboundEntry < ratio → m = .balanced)

/-- The Flow Estimator has closed a cycle of record `f` (R74 to R76, R78): the directional ratio is that of the
volumes, which become 0; a hold keeps the mode; without one the candidate is confirmed, and at its third sweep complete
in a row it becomes the mode, with DIRECTION_CHANGED. -/
def CycleClosed (s t : State) (f : Flow) : Prop :=
  t.flow.ratio = min 255 (16 * f.volumeIn / max f.volumeOut 1) ∧ t.flow.volumeIn = 0 ∧ t.flow.volumeOut = 0 ∧
    t.flow.approaches = f.approaches ∧ t.flow.hold = f.hold ∧
    (f.hold ≠ none → t.flow.mode = f.mode ∧ t.flow.candidate = f.candidate ∧ t.flow.confirmation = f.confirmation) ∧
    (f.hold = none → ∀ m, Candidate s.corridor.settings f t.flow.ratio m →
      (m = f.mode → t.flow.mode = f.mode ∧ t.flow.candidate = none ∧ t.flow.confirmation = 0) ∧
      (m ≠ f.mode → f.candidate ≠ some m →
        t.flow.mode = f.mode ∧ t.flow.candidate = some m ∧ t.flow.confirmation = 1) ∧
      (m ≠ f.mode → f.candidate = some m → f.confirmation < 2 →
        t.flow.mode = f.mode ∧ t.flow.candidate = some m ∧ t.flow.confirmation = f.confirmation + 1) ∧
      (m ≠ f.mode → f.candidate = some m → 2 ≤ f.confirmation →
        t.flow.mode = m ∧ t.flow.candidate = none ∧ t.flow.confirmation = 0 ∧
          t.notices.corridor.directionChanged.data = some (.directionChanged f.mode m false t.flow.ratio)))

/-- The snapshot of a computation of plan `p` that begins in state `t`: the values of R37, the counted flags those of
R38. -/
def SnapshotOf (t : State) (p : PlanNo) (n : Snapshot) : Prop :=
  n.sequence = t.clock.sequence ∧ n.mode = t.flow.mode ∧ n.ratio = t.flow.ratio ∧
    (t.plans.get p).cycle = some n.cycle ∧ (t.plans.get p).sIn = some n.sIn ∧ (t.plans.get p).sOut = some n.sOut ∧
    (t.plans.get p).ref = some n.ref ∧ (t.plans.get p).oRef = some n.oRef ∧ (t.plans.get p).loss = some n.loss ∧
    (t.plans.get p).headway = some n.headway ∧ (t.plans.get p).wIn = some n.wIn ∧
    (t.plans.get p).wOut = some n.wOut ∧
    (∀ k, t.corridor.table.get k = none → n.slots.get k = none) ∧
    ∀ k j b, t.corridor.table.get k = some j → t.flow.approaches.get k = some b →
      ∃ x, n.slots.get k = some x ∧ x.position = j.position ∧ (t.plans.get p).green.get k = some x.green ∧
        x.queueIn = b.inbound.queue ∧ x.queueOut = b.outbound.queue ∧
        (x.counted = true ↔ (t.monitor.get k).state = .confirming ∨ (t.monitor.get k).state = .inStep) ∧
        ∀ a o, x.counted = true → t.transition.records.get k = some a → a.model = .valid o → x.offset = some o

/-- The sweep is complete in state `t`, the flow record before its close being `f`: the sweep and its exchange are
over, the cycle is closed, the download period is open, and in Starting and Running a computation of the plan in force
begins with its snapshot; in Stopping none does (R36, R37, R78, R159). In a legal state every needed plan then has an
order at each defined junction; with 4 frames queued, so that none is queued at once, exactly the orders that were
lacking have joined the list (R129, R130). -/
def SweepClosed (s t : State) (f : Flow) : Prop :=
  (RecordsLegal s → DirectoryLegal s → ∀ k p, s.corridor.table.get k ≠ none → NeededAt s k p →
    OrderedAt t.directory.orders k p) ∧
  (4 ≤ s.line.queue.length → t.directory.dirs = s.directory.dirs ∧ OrdersCreated s t) ∧
  t.corridor = s.corridor ∧ t.plans = s.plans ∧ t.host = s.host ∧ t.clock.sequence = s.clock.sequence ∧
    t.line.sweep = none ∧ t.line.exchange = none ∧ t.line.period = true ∧ CycleClosed s t f ∧
    t.engine.results = s.engine.results ∧ (s.corridor.state = .stopping → t.engine = s.engine) ∧
    ∀ p, (s.corridor.state = .starting ∨ s.corridor.state = .running) → InForce s p → Complete s p →
      (s.plans.get p).loss ≠ none → (s.plans.get p).headway ≠ none → (s.plans.get p).wIn ≠ none →
      (s.plans.get p).wOut ≠ none → ∃ n, t.engine.inFlight = some n ∧ SnapshotOf t p n

/-! ### Requests -/

/-- Field `n` of a definition, numbered from 1 in the order of the body, is out of its range (R1). -/
def FieldOut (j : JunctionDef) : Nat → Prop
  | 1 => j.address < 1 ∨ 31 < j.address
  | 2 => 20000 < j.position
  | 3 => j.lanesIn < 1 ∨ 4 < j.lanesIn
  | 4 => j.lanesOut < 1 ∨ 4 < j.lanesOut
  | 5 => j.lengthIn < 50 ∨ 2000 < j.lengthIn
  | 6 => j.lengthOut < 50 ∨ 2000 < j.lengthOut
  | _ => False

/-- Slot `i`, with definition `d`, is the nearest defined slot below slot `k`. -/
def NearestBelow (s : State) (k i : Slot) (d : JunctionDef) : Prop :=
  s.corridor.table.get i = some d ∧ i.num < k.num ∧
    ∀ m : Slot, i.num < m.num → m.num < k.num → s.corridor.table.get m = none

/-- Slot `i`, with definition `d`, is the nearest defined slot above slot `k`. -/
def NearestAbove (s : State) (k i : Slot) (d : JunctionDef) : Prop :=
  s.corridor.table.get i = some d ∧ k.num < i.num ∧
    ∀ m : Slot, k.num < m.num → m.num < i.num → s.corridor.table.get m = none

/-- Storage by formula: the floor of the link over 7, times the lanes, at most 255 (R5). -/
def Storage (link lanes cap : Nat) : Prop := cap = min 255 (link / 7 * lanes)

/-- A value of a two-byte field of WRITE PLAN that is out of its range, by field code; the bound of O_ref is the stored
C, or 2400 while C is unset (R19, R26). -/
def ValueOut (stored : PlanRecord) (code v : Nat) : Prop :=
  (code = 1 ∧ (v < 400 ∨ 2400 < v)) ∨ ((code = 4 ∨ code = 5) ∧ (v < 30 ∨ 250 < v)) ∨
    (code = 6 ∧ (v < 1 ∨ 12 < v)) ∨ (code = 7 ∧ stored.cycle.getD 2400 ≤ v) ∨ (code = 8 ∧ 50 < v) ∨
    (code = 9 ∧ (v < 15 ∨ 40 < v)) ∨ (code = 10 ∧ (v < 9 ∨ 16 < v)) ∨ (code = 11 ∧ 7 < v)

/-- Neither in use nor pending, so that a structural write is taken (R25). -/
def Writable (s : State) (p : PlanNo) : Prop := ¬ InUse s p ∧ s.directory.pending ≠ some p

/-- The record that the first write of a blank record leaves: the defaults fill what the write does not set (R21). -/
def firstWritten (r : PlanRecord) : PlanRecord :=
  { r with
    loss := some (r.loss.getD 20), headway := some (r.headway.getD 20), wIn := some (r.wIn.getD 13)
    wOut := some (r.wOut.getD 3) }

/-- The code of a two-byte field of WRITE PLAN (R197). -/
def fieldCode : PlanField → Nat
  | .cycle => 1 | .sIn => 4 | .sOut => 5 | .ref => 6 | .oRef => 7 | .loss => 8 | .headway => 9 | .wIn => 10
  | .wOut => 11

/-- An item of WRITE PLAN in bytes (R197). -/
def itemBytes : PlanItem → List Byte
  | .value f v => u8 (fieldCode f) :: u16 v
  | .green k v => 2 :: u8 k :: u16 v
  | .image k bytes => 3 :: u8 k :: u8 bytes.length :: bytes

/-- The numbers of an item fit the bytes that carry them (R197). -/
def Carried : PlanItem → Prop
  | .value _ v => v < 65536
  | .green k v => k < 256 ∧ v < 65536
  | .image k bytes => k < 256 ∧ bytes.length < 256

/-- The slot that an item names, where it names one, is in 1..12 (R24). -/
def NamesSlot : PlanItem → Prop
  | .value _ _ => True
  | .green k _ => 1 ≤ k ∧ k ≤ 12
  | .image k _ => 1 ≤ k ∧ k ≤ 12

/-- Every item names its own field, with a slot in 1..12 where it names one (R25, check 2). -/
def NamesFields (items : List PlanItem) : Prop :=
  (items.Pairwise fun i j => i.sameField j = false) ∧ ∀ i ∈ items, NamesSlot i

/-- The bytes are those of whole items, each of a known field code (R24, R197). -/
def Accounted (bytes : List Byte) : Prop :=
  ∃ items : List PlanItem, (∀ k image, PlanItem.image k image ∈ items → image.length < 256) ∧
    bytes = items.flatMap itemBytes

/-- A two-byte field of a plan record, the reference junction by its number. -/
def fieldOf (r : PlanRecord) : PlanField → Option Nat
  | .cycle => r.cycle | .sIn => r.sIn | .sOut => r.sOut | .ref => r.ref.map fun k => k.num | .oRef => r.oRef
  | .loss => r.loss | .headway => r.headway | .wIn => r.wIn | .wOut => r.wOut

/-- `result` is `base` with every item's value stored, and every field that no item names as it was (R28). -/
def Stores (base : PlanRecord) (items : List PlanItem) (result : PlanRecord) : Prop :=
  (∀ f v, PlanItem.value f v ∈ items → fieldOf result f = some v) ∧
    (∀ f, (∀ v, PlanItem.value f v ∉ items) → fieldOf result f = fieldOf base f) ∧
    (∀ (k : Slot) v, PlanItem.green k.num v ∈ items → result.green.get k = some v) ∧
    (∀ k : Slot, (∀ v, PlanItem.green k.num v ∉ items) → result.green.get k = base.green.get k) ∧
    (∀ (k : Slot) bytes, PlanItem.image k.num bytes ∈ items → result.image.get k = bytes) ∧
    ∀ k : Slot, (∀ bytes, PlanItem.image k.num bytes ∉ items) → result.image.get k = base.image.get k

/-- `result` has the C that the items leave: the one they write, or that of `base` (R26). -/
def StoresCycle (base : PlanRecord) (items : List PlanItem) (result : PlanRecord) : Prop :=
  (∀ v, PlanItem.value .cycle v ∈ items → result.cycle = some v) ∧
    ((∀ v, PlanItem.value .cycle v ∉ items) → result.cycle = base.cycle)

/-- An item's value is in its field's range, the record that the write leaves being `result`; the reference slot of a
plan in use or pending is to be defined (R19, R26). -/
def ItemFits (s : State) (p : PlanNo) (result : PlanRecord) : PlanItem → Prop
  | .value f v => v < 65536 ∧ ¬ ValueOut result (fieldCode f) v ∧
      (f = .ref → (InUse s p ∨ s.directory.pending = some p) →
        ∀ k : Slot, v = k.num → s.corridor.table.get k ≠ none)
  | .green k v => 1 ≤ k ∧ k ≤ 12 ∧ v < 65536 ∧ 50 ≤ v ∧ v + 100 ≤ result.cycle.getD 2400
  | .image k bytes => 1 ≤ k ∧ k ≤ 12 ∧ bytes.length ≤ 48

/-- The relations of R27. -/
def RecordFits (r : PlanRecord) : Prop :=
  (∀ c k g, r.cycle = some c → r.green.get k = some g → g + 100 ≤ c) ∧
    ∀ c o, r.cycle = some c → r.oRef = some o → o < c

/-- An item of a write sets a field that takes part in a relation of R27 that `result` breaks. -/
def TakesPart (result : PlanRecord) : PlanItem → Prop
  | .value f _ =>
    (f = .cycle ∧ ¬ RecordFits result) ∨
      (f = .oRef ∧ ∃ c o, result.cycle = some c ∧ result.oRef = some o ∧ c ≤ o)
  | .green _ _ => ∃ c k g, result.cycle = some c ∧ result.green.get k = some g ∧ c < g + 100
  | .image _ _ => False

/-- A write is structural: an erase, or one that writes C, a green or an image (R20). -/
def Structural (erase : Bool) (items : List PlanItem) : Prop :=
  erase = true ∨ ∃ i ∈ items, (∃ v, i = .value .cycle v) ∨ (∃ k v, i = .green k v) ∨ ∃ k bytes, i = .image k bytes

/-- Every directory slot is marked for a changed plan `p` as the table of R125 says; the bits stay. -/
def StructureChanged (s t : State) (p : PlanNo) : Prop :=
  ∀ k, (t.directory.dirs.get k).bits = (s.directory.dirs.get k).bits ∧
    ∀ x, (t.directory.dirs.get k).get x =
      match (s.directory.dirs.get k).get x with
      | .valid q => if q = p then .stale p else .valid q
      | .loading q mark prior =>
        .loading q (if q = p then true else mark) (if prior = .valid p then .stale p else prior)
      | .stale q => .stale q
      | .empty => .empty

/-- The line-quality count of slot `k` has started at 0 with a current value of false, which LINE_QUALITY then has too;
nothing else at the Notice Unit has changed (R147). -/
def QualityDiscarded (s t : State) (k : Slot) : Prop :=
  t.line.quality.get k = ⟨0, false⟩ ∧ t.notices = { s.notices with slots := t.notices.slots } ∧
    (∀ i, i ≠ k → t.notices.slots.get i = s.notices.slots.get i) ∧
    t.notices.slots.get k = { s.notices.slots.get k with
      lineQuality := { (s.notices.slots.get k).lineQuality with current := false } }

/-- The requests whose body has one length: command, kind and length (R181, R197). -/
def fixedRequests : List (Instr × Nat × Nat) :=
  [(.identify, 0x01, 0), (.status, 0x02, 0), (.reset, 0x04, 0), (.defineJunction, 0x05, 10), (.removeJunction, 0x06, 1),
    (.readJunction, 0x07, 1), (.readPlan, 0x09, 2), (.readCorridor, 0x0B, 0), (.start, 0x0C, 1), (.stop, 0x0D, 0),
    (.switchPlan, 0x0E, 1), (.preloadPlan, 0x0F, 1), (.holdDirection, 0x10, 1), (.freeJunction, 0x11, 1),
    (.reseekJunction, 0x12, 1), (.seedQueue, 0x13, 3), (.injectSkew, 0x14, 3), (.readProgression, 0x15, 0)]

/-- A code that names a setting (R197). -/
def KnownSetting (code : Byte) : Prop := 1 ≤ code.toNat ∧ code.toNat ≤ 18

/-- The value of an item of SET CORRIDOR is in the range of the setting that it names (R183, R184). -/
def SettingFits (x : Byte × Nat) : Prop := ∀ i : SettingId, x.1.toNat = i.code → i.inRange x.2 = true

/-- Every directory is in line with the fallback plan `f`: slot 0 is Empty unless it held f, and every other slot that
held f is Empty; the bits stay (R124). -/
def AlignedWith (s t : State) (f : PlanNo) : Prop :=
  ∀ k, (t.directory.dirs.get k).bits = (s.directory.dirs.get k).bits ∧
    ∀ x, (t.directory.dirs.get k).get x =
      if x = .d0 then
        (if ((s.directory.dirs.get k).get x).plan = some f then (s.directory.dirs.get k).get x else .empty)
      else if ((s.directory.dirs.get k).get x).plan = some f then .empty
      else (s.directory.dirs.get k).get x

/-- An item of SET NOTICE MASK that names a kind with a mask, and a mask code (R190). -/
def MaskItem (x : Nat × Nat) : Prop := 1 ≤ x.1 ∧ x.1 ≤ 17 ∧ x.1 ≠ 9 ∧ x.2 ≤ 1

/-- An event latch in a reply: status byte and count (R198). -/
def eventBytes (l : EventLatch) : List Byte := [boolByte l.latched, u8 l.count]

/-- A condition latch in a reply: the latched value in bit 0, the current value in bit 1 (R198). -/
def conditionBytes (l : ConditionLatch) : List Byte :=
  [u8 ((if l.latched then 1 else 0) + (if l.current then 2 else 0))]

/-- The latches of a slot in a reply, kinds 10 to 16 in code order (R198). -/
def slotLatchBytes (l : SlotLatches) : List Byte :=
  eventBytes l.stepChange ++ eventBytes l.slip ++ eventBytes l.realigned ++ conditionBytes l.spillback ++
    conditionBytes l.detectorFault ++ conditionBytes l.lineQuality ++ eventBytes l.downloadFailed

/-- The latches of an undefined slot in READ JUNCTION's reply: every event count is 0, and the latched values stand
until a STATUS (R187, 10.5). -/
def withoutCounts (l : SlotLatches) : SlotLatches :=
  { l with
    stepChange := { l.stepChange with count := 0 }, slip := { l.slip with count := 0 }
    realigned := { l.realigned with count := 0 }, downloadFailed := { l.downloadFailed with count := 0 } }

/-- STATUS's content: corridor state, plans and sequence number, then every latch, the corridor kinds 1 to 9 in code
order and then, slot by slot, kinds 10 to 16 (R189, R198). -/
def statusBytes (s : State) : List Byte :=
  let c := s.notices.corridor
  [u8 s.corridor.state.code, planByte s.directory.active, planByte s.directory.pending, u8 s.clock.sequence] ++
    eventBytes c.corridorState ++ eventBytes c.planCommitted ++ eventBytes c.planExclusion ++
    eventBytes c.directionChanged ++ eventBytes c.beaconSkipped ++ eventBytes c.sweepOverrun ++
    conditionBytes c.transitionBlocked ++ eventBytes c.hostFrameError ++ eventBytes c.noticeOverflow ++
    Slot.all.flatMap fun k => slotLatchBytes (s.notices.slots.get k)

/-- A field of a plan in READ PLAN's summary: whether it is set, and its value or 0 (R33). -/
def fieldBytes (v : Option Nat) : List Byte := boolByte v.isSome :: u16 (v.getD 0)

/-- One approach in READ JUNCTION's reply; a slot with no approach record reports 0 (R187, R198). -/
def approachBytes : Option Approach → List Byte
  | none => [0, 0, 0, 0, 0, 0]
  | some a => [u8 a.queue, boolByte a.spillback, boolByte a.reachedStorage, u8 a.high, u8 a.low,
      u8 ((if a.advanceFault then 2 else 0) + (if a.stopFault then 4 else 0))]

/-- READ JUNCTION's content, group by group (R187, R198). -/
def junctionBytes (s : State) (k : Slot) : List Byte :=
  let r := s.monitor.get k
  let q := s.line.quality.get k
  let d := s.directory.dirs.get k
  let l := s.notices.slots.get k
  [u8 k.num] ++
    (match s.corridor.table.get k with
    | none => ([0, 0, 0, 0, 0, 0, 0, 0, 0, 0] : List Byte)
    | some j =>
      [1, u8 j.address] ++ u16 j.position ++ [u8 j.lanesIn, u8 j.lanesOut] ++ u16 j.lengthIn ++ u16 j.lengthOut) ++
    [u8 (s.corridor.capacity.get k).inbound, u8 (s.corridor.capacity.get k).outbound] ++
    [u8 r.state.code, u8 r.cause.code, u8 r.window.length] ++ r.window.map (fun o => u8 o.code) ++
    List.replicate (6 - r.window.length) (0xFF : Byte) ++
    [u8 s.corridor.settings.slipWindow, u8 r.misses, u8 r.failures, u8 r.run,
      match r.localMode with | none => 0xFF | some m => u8 m.code, u8 r.sweep.code] ++
    optU16 r.measured ++ [boolByte r.error.isSome] ++ i16 (r.error.getD 0) ++
    (match s.transition.records.get k with
    | none => ([0, 0, 0xFF, 0xFF, 0xFF, 0xFF, 0xFF, 0xFF, 0, 0, 0, 0, 0] : List Byte)
    | some x =>
      [u8 x.seek.code, u8 x.model.code] ++ optU16 x.model.offset ++ optU16 x.target ++ optU16 x.lastLength ++
        i16 x.lastSkew ++ [boolByte x.pendingSkew.isSome] ++ i16 (x.pendingSkew.getD 0)) ++
    optU16 (s.engine.results.bind fun e => e.offset.get k) ++
    approachBytes ((s.flow.approaches.get k).map fun b => b.inbound) ++
    approachBytes ((s.flow.approaches.get k).map fun b => b.outbound) ++
    u16 q.count ++ [boolByte q.current] ++
    [u8 d.d0.code, planByte d.d0.plan, u8 d.d1.code, planByte d.d1.plan, u8 d.d2.code, planByte d.d2.plan,
      u8 d.d3.code, planByte d.d3.plan, u8 d.bits] ++
    slotLatchBytes (match s.corridor.table.get k with | none => withoutCounts l | some _ => l)

/-- READ PROGRESSION's content: the results record, every figure 0 while there is none, and each slot (R188, R198). -/
def progressionBytes (s : State) : List Byte :=
  (match s.engine.results with
  | none => ([0, 0, 0, 0, 0, 0, 0, 0, 0, 0, 0, 0, 0, 0, 0, 0, 0, 0] : List Byte)
  | some r =>
    [1, u8 r.sequence, u8 r.mode.code, u8 r.ratio, u8 r.weight, u8 r.counted] ++
      u16 r.designed.inbound ++ u16 r.designed.outbound ++ u16 r.current.inbound ++ u16 r.current.outbound ++
      [u8 r.designedShare.inbound, u8 r.designedShare.outbound, u8 r.currentShare.inbound,
        u8 r.currentShare.outbound]) ++
    Slot.all.flatMap fun k =>
      optU16 (s.engine.results.bind fun r => r.offset.get k) ++
        match s.transition.records.get k with
        | none => ([0xFF, 0xFF, 0xFF, 0xFF, 0, 0] : List Byte)
        | some x => optU16 x.target ++ optU16 x.model.offset ++ [u8 x.model.code, u8 x.seek.code]

/-- READ PLAN's summary of a plan, after its number, `complete` telling whether it is complete (R33, R198). -/
def summaryBytes (s : State) (p : PlanNo) (complete : Bool) : List Byte :=
  let r := s.plans.get p
  fieldBytes r.cycle ++ fieldBytes r.sIn ++ fieldBytes r.sOut ++ fieldBytes (r.ref.map fun k => k.num) ++
    fieldBytes r.oRef ++ fieldBytes r.loss ++ fieldBytes r.headway ++ fieldBytes r.wIn ++ fieldBytes r.wOut ++
    Slot.all.flatMap (fun k => fieldBytes (r.green.get k) ++ [u8 (r.image.get k).length]) ++
    [boolByte complete, boolByte (decide (s.directory.active = some p)),
      boolByte (decide (s.directory.pending = some p)),
      boolByte (decide (s.corridor.settings.fallback = some p))]

end Sys2Proof.Claims

open Sys2Proof.Claims

/-! ### The machine as a whole -/

/-- With a command at the front of the queue, a step is that command's effect on the state with the queue's rest. -/
def Obligations.StepTakesTheFrontCommand : Prop :=
  ∀ (c : Instr) (rest : List Instr) (s : State), s.pending = c :: rest → step s = exec c { s with pending := rest }

/-- THE MODEL'S CHOICE (log 1). With no command waiting, a step is one decisecond: only the clock and the line
change, and of the clock only master time, by at most one. It advances outside Idle when no event is due (R13). -/
def Obligations.EmptyQueueStepIsOneDecisecond : Prop :=
  ∀ s : State, s.pending = [] → ∃ t, step s = .next t ∧
    t = { s with clock := { s.clock with masterTime := t.clock.masterTime }, line := t.line } ∧
    (s.corridor.state = .idle → t.clock.masterTime = s.clock.masterTime) ∧
    (s.eventDue = true → t = s) ∧
    (s.corridor.state ≠ .idle → s.eventDue = false → t.clock.masterTime = s.clock.masterTime + 1)

/-- The state that a cold reset sets (R17), with the transmitter Free, no host record sent and none waiting (R147,
R180, R182). THE MODEL'S CHOICE (log 28): the commands that wait in the model's own queue are not the part's, and stay.
-/
def Obligations.ColdResetSetsTheColdState : Prop :=
  ∀ s : State, ∃ t, exec .coldReset s = .next t ∧ t.pending = s.pending ∧
    (∀ k, t.corridor.table.get k = none) ∧ t.corridor.settings = Settings.default ∧
    t.corridor.settings.fallback = none ∧ t.corridor.state = .idle ∧ t.clock.masterTime = 0 ∧
    t.clock.sequence = 0 ∧ (∀ k, t.corridor.capacity.get k = ⟨0, 0⟩) ∧ (∀ p, t.plans.get p = PlanRecord.blank) ∧
    t.directory.active = none ∧ t.directory.pending = none ∧ t.corridor.startingPlan = none ∧
    (∀ k x, (t.directory.dirs.get k).get x = .empty) ∧ t.host.queue = [] ∧ t.line.queue = [] ∧
    t.line.assembly = none ∧ t.line.unchecked = [] ∧ t.notices.queue = [] ∧
    t.notices.corridor = CorridorLatches.clear ∧ (∀ k, t.notices.slots.get k = SlotLatches.clear) ∧
    (∀ n, t.notices.masks.unmasked n = false) ∧ t.line.windowTime = 0 ∧ (∀ k, t.line.quality.get k = ⟨0, false⟩) ∧
    t.line.transmitter = .free ∧ t.host.sending = none ∧ t.host.outbox = []

/-- The state after reset meets every invariant stated below. -/
def Obligations.ResetStateIsLegal : Prop :=
  LayoutForm State.reset.corridor.table ∧ SettingsInRange State.reset.corridor.settings ∧
    QueuesBounded State.reset ∧ PlanStateLegal State.reset ∧ FlowLegal State.reset ∧ RecordsLegal State.reset ∧
    BeaconLegal State.reset ∧ DirectoryLegal State.reset

/-- Every step keeps the form of the junction table: definitions in range, addresses distinct, positions increasing
with slot index (R1, R2). -/
def Obligations.LayoutFormIsKept : Prop :=
  ∀ s t : State, LayoutForm s.corridor.table → step s = .next t → LayoutForm t.corridor.table

/-- Every step keeps every setting in its range, and the request queue, the refusal list and the notice queue within
their capacities (R180, R183, R184, R192). That a refusal in transmission still counts in its list is the model's
reading (log 15). -/
def Obligations.SettingsAndQueuesStayInBounds : Prop :=
  ∀ s t : State, step s = .next t →
    (SettingsInRange s.corridor.settings → SettingsInRange t.corridor.settings) ∧ (QueuesBounded s → QueuesBounded t)

/-- Every step keeps the plan state in agreement with the corridor state (R6, R9, R10, R12, R126, R167). -/
def Obligations.PlanStateStaysLegal : Prop :=
  ∀ s t : State, PlanStateLegal s → step s = .next t → PlanStateLegal t

/-- Every step keeps every queue estimate at most S, and equal to S while in spillback, and no approach record in
Idle (R60, R65, R68). -/
def Obligations.QueueEstimatesStayLegal : Prop :=
  ∀ s t : State, FlowLegal s → step s = .next t → FlowLegal t

/-- Every step keeps the records in agreement with the layout: outside Idle exactly the defined slots have a transition
record and approach records, and in Idle none has; exactly the undefined slots are Vacant; no two download orders are
for the same junction and plan (R60, R80, R97, R129). -/
def Obligations.RecordsFollowTheLayout : Prop :=
  ∀ s t : State, RecordsLegal s → step s = .next t → RecordsLegal t

/-- Every step keeps the directories in agreement with the download list and with the lock of slot 0: each Loading slot
is the target of the order for its plan, and the other way round for an order that is not On line; in Idle and Stopping
nothing waits for a download; and no plan but the fallback plan comes to slot 0, nor the fallback plan to any other
slot, while one is set. It keeps the transmit queue's beacon at its head, and a stopping one to Stopping (R10 to R12,
R122, R124, R127 to R134, R152, R154). -/
def Obligations.DirectoriesStayLegal : Prop :=
  ∀ s t : State, RecordsLegal s → BeaconLegal s → DirectoryLegal s → step s = .next t →
    BeaconLegal t ∧ DirectoryLegal t

/-! ### The host link and the Notice Unit -/

/-- A whole good record that arrives while the framer hunts is a received request: it joins a queue that holds fewer
than 4, is refused with QUEUE_FULL while the refusal list holds fewer than 4, and is otherwise discarded with
HOST_FRAME_ERROR "refusal overflow" (R178 to R180). That the list counts the refusal now being sent is the model's
reading (log 15). -/
def Obligations.WholeRecordIsReceived : Prop :=
  ∀ (kind tag : Byte) (body : List Byte) (s : State), body.length ≤ 240 → s.host.framer = none →
    exec (.hostRecordReceived (hostRecord kind tag body)) s =
      .next
        (if s.host.queue.length < 4 then
          { s with host := { s.host with queue := s.host.queue ++ [{ kind := kind, tag := tag, body := body }] } }
        else if s.host.refusals < 4 then
          { s with host := { s.host with outbox := s.host.outbox ++
              [{ source := .refusal, kind := replyKind kind, tag := tag, body := [13] }] } }
        else { s with notices := s.notices.signal s.stamp (.event (.hostFrameError .refusalOverflow)) })

/-- A complete record whose CRC does not agree is discarded with the fault CRC, one whose length byte is out of 2..242
with the fault length as soon as that byte is received, and more than 20 ms after a byte of an incomplete record that
record is discarded with the fault gap: nothing is queued, the framer hunts, and HOST_FRAME_ERROR rises. Its notice
joins a queue that holds fewer than 32 while the kind is unmasked; above that it is dropped, and NOTICE_OVERFLOW counts
it. A byte other than 0xA5 is ignored while hunting (R179, R190, R191, R192). -/
def Obligations.DamagedRecordsAreDiscarded : Prop :=
  (∀ (kind tag c1 c0 : Byte) (body : List Byte) (s : State), body.length ≤ 240 → s.host.framer = none →
    [c1, c0] ≠ crcBytes (u8 (body.length + 2) :: kind :: tag :: body) →
    ∃ t, exec (.hostRecordReceived (0xA5 :: u8 (body.length + 2) :: kind :: tag :: (body ++ [c1, c0]))) s = .next t ∧
      t = { s with notices := t.notices } ∧ RaisesHostFrameError s t .crc) ∧
  (∀ (length : Byte) (s : State), length.toNat < 2 ∨ 242 < length.toNat → s.host.framer = none →
    ∃ t, exec (.hostRecordReceived [0xA5, length]) s = .next t ∧ t = { s with notices := t.notices } ∧
      RaisesHostFrameError s t .length) ∧
  (∀ s : State, s.host.framer ≠ none → ∃ t, exec .hostGapTimeout s = .next t ∧
    t = { s with host := { s.host with framer := none }, notices := t.notices } ∧ RaisesHostFrameError s t .gap) ∧
  ∀ (b : Byte) (s : State), b ≠ 0xA5 → s.host.framer = none → exec (.hostRecordReceived [b]) s = .next s

/-- The free transmitter takes a waiting reply or refusal before any notice, in the order they became ready; a notice
leaves its queue with the number of notices behind it written in. When the last byte of a reply has been sent, its
request leaves the queue and the next may be taken; after a refusal or a notice the queue stands as it was (R180, R182,
R191, R196). THE MODEL'S READING (log 40): the active and the pending plan that R143 has every notice report stand
beside the bytes of its record, whose layout has no place for them. -/
def Obligations.HostRecordsGoOut : Prop :=
  ∀ s : State,
    (∀ o rest, s.host.sending = none → s.host.outbox = o :: rest →
      exec .hostRecordBegin s = .next { s with host := { s.host with
        outbox := rest, sending := some { source := o.source, wire := hostRecord o.kind o.tag o.body } } }) ∧
    (∀ n rest, s.host.sending = none → s.host.outbox = [] → s.notices.queue = n :: rest →
      exec .hostRecordBegin s = .next { s with
        host := { s.host with
          sending := some { source := .notice n.stamp, wire := hostRecord 0x40 0 (noticeBytes n rest.length) } }
        notices := { s.notices with queue := rest } }) ∧
    ∀ o, s.host.sending = some o →
      exec .hostRecordSent s = .next { s with host :=
        if o.source = .reply then { s.host with sending := none, queue := s.host.queue.tail, serving := false }
        else { s.host with sending := none } }

/-- A request of no catalogue kind is answered UNKNOWN_KIND with the kind received, and one whose body length does not
suit its kind BAD_LENGTH, before any other check and in every state; nothing else changes. A body has one length for
each request of fixed content; it is accounted for by whole items for SET NOTICE MASK, SET CORRIDOR and WRITE PLAN, and
by its payload length for LOOPBACK TEST (R24, R181, R195, R197). -/
def Obligations.RequestKindAndLengthAreChecked : Prop :=
  ∀ (s : State) (r : Request), s.host.serving = false → s.host.queue.head? = some r →
    ((r.kind.toNat = 0 ∨ 0x16 < r.kind.toNat) →
      exec .unknownKindRequest s = .next { s with host := answered s.host r .unknownKind [r.kind] }) ∧
    (∀ i kind n, (i, kind, n) ∈ fixedRequests → r.kind.toNat = kind → r.body.length ≠ n →
      exec i s = .next { s with host := answered s.host r .badLength [] }) ∧
    (r.kind.toNat = 0x03 → r.body.length % 2 ≠ 0 →
      exec .setNoticeMask s = .next { s with host := answered s.host r .badLength [] }) ∧
    (r.kind.toNat = 0x0A → r.body.length % 3 ≠ 0 →
      exec .setCorridor s = .next { s with host := answered s.host r .badLength [] }) ∧
    (r.kind.toNat = 0x08 → (∀ p erase items, Accounted items → r.body ≠ p :: erase :: items) →
      exec .writePlan s = .next { s with host := answered s.host r .badLength [] }) ∧
    (r.kind.toNat = 0x16 →
      (∀ n length payload, length.toNat = payload.length → r.body ≠ n :: length :: payload) →
      exec .loopbackTest s = .next { s with host := answered s.host r .badLength [] })

/-- IDENTIFY, READ CORRIDOR, READ JUNCTION, READ PLAN and READ PROGRESSION answer OK with the contents of R198, and
change nothing (R33, R34, R183, R185, R187, R188). An undefined slot reports its latches with every event count 0. THE
MODEL'S READING: a last local mode that is unknown is reported as 0xFF (log 11), and with no results present READ
PROGRESSION's sequence number and mode are 0 as its figures are (log 29). -/
def Obligations.ReadsReportAndChangeNothing : Prop :=
  ∀ (s : State) (r : Request),
    (s.AtHead 0x01 [] r → exec .identify s =
      .next { s with host := answered s.host r .ok [0x0C, 0x12, 1, 12, 16, 4, 4, 16, 32] }) ∧
    (s.AtHead 0x0B [] r → exec .readCorridor s = .next { s with
      host := answered s.host r .ok ((SettingId.all.flatMap fun i => u16 (s.corridor.settings.value i)) ++
        [u8 s.corridor.state.code, planByte s.directory.active, planByte s.directory.pending,
          u8 s.directory.deadline, planByte s.corridor.startingPlan, u8 s.clock.sequence, u8 s.flow.mode.code,
          u8 (holdCode s.flow.hold), u8 (Slot.all.filter fun k => (s.corridor.table.get k).isSome).length]) }) ∧
    (∀ b, NoSlot b → s.AtHead 0x07 [b] r →
      exec .readJunction s = .next { s with host := answered s.host r .badValue [0] }) ∧
    (∀ b k, IsSlot b k → s.AtHead 0x07 [b] r →
      exec .readJunction s = .next { s with host := answered s.host r .ok (junctionBytes s k) } ∧
        ((s.monitor.get k).window.length ≤ 6 → (junctionBytes s k).length = 83)) ∧
    (∀ pb p, pb.toNat = PlanNo.num p → s.AtHead 0x09 [pb, 0] r → ∃ complete, (complete = true ↔ Complete s p) ∧
      exec .readPlan s = .next { s with host := answered s.host r .ok (pb :: summaryBytes s p complete) }) ∧
    (∀ pb b p k, pb.toNat = PlanNo.num p → IsSlot b k → s.AtHead 0x09 [pb, b] r →
      exec .readPlan s = .next { s with
        host := answered s.host r .ok
          ([pb, b, u8 ((s.plans.get p).image.get k).length] ++ (s.plans.get p).image.get k) }) ∧
    (∀ pb b, pb.toNat = 0 ∨ 16 < pb.toNat → s.AtHead 0x09 [pb, b] r →
      exec .readPlan s = .next { s with host := answered s.host r .badValue [0] }) ∧
    (∀ pb b, 1 ≤ pb.toNat → pb.toNat ≤ 16 → 12 < b.toNat → s.AtHead 0x09 [pb, b] r →
      exec .readPlan s = .next { s with host := answered s.host r .badValue [1] }) ∧
    (s.corridor.state = .idle → s.AtHead 0x15 [] r →
      exec .readProgression s = .next { s with host := answered s.host r .wrongState [] }) ∧
    (s.corridor.state ≠ .idle → s.AtHead 0x15 [] r →
      exec .readProgression s = .next { s with host := answered s.host r .ok (progressionBytes s) } ∧
        (progressionBytes s).length = 114)

/-- STATUS reports the corridor state, the plans and the sequence number, and then the status byte of every latch, with
the count of each that is an event: the corridor kinds in code order, and slot by slot those of the slots, 153 bytes in
all. Then every event latch is cleared, and every condition latch whose current value is false; no notice leaves the
queue (R189, R198). -/
def Obligations.StatusReportsThenClears : Prop :=
  ∀ (s : State) (r : Request), s.AtHead 0x02 [] r → ∃ t, exec .status s = .next t ∧
    t = { s with notices := t.notices, host := answered s.host r .ok (statusBytes s) } ∧
    (statusBytes s).length = 153 ∧
    t.notices.queue = s.notices.queue ∧ t.notices.masks = s.notices.masks ∧
    t.notices.corridor = { CorridorLatches.clear with
      transitionBlocked := if s.notices.corridor.transitionBlocked.current then s.notices.corridor.transitionBlocked
        else .clear } ∧
    ∀ k, (t.notices.slots.get k).stepChange = .clear ∧ (t.notices.slots.get k).slip = .clear ∧
      (t.notices.slots.get k).realigned = .clear ∧ (t.notices.slots.get k).downloadFailed = .clear ∧
      ∀ c, (t.notices.slots.get k).condition c =
        if ((s.notices.slots.get k).condition c).current then (s.notices.slots.get k).condition c else .clear

/-- An accepted SET NOTICE MASK sets each mask as its item says and no other; notices already queued stay. Then, in
the order of the items, each kind that was masked and is now unmasked is re-announced: one notice for each latch of it
that is set, its corridor latch or its slots ascending, with the stored kind data. Those that find the queue at 32 are
dropped, and NOTICE_OVERFLOW counts them. An item that names no kind with a mask, or a kind named before, or carries no
mask code is refused with its number, the first such one, and no mask is set (R181, R190, R192). That an item's mask
code is checked with its kind, so that the first item bad in either way is named (log 18), and that of two items of one
kind the second is the bad one (log 46), is the model's reading. -/
def Obligations.MasksAreSetAsTheItemsSay : Prop :=
  (∀ (s : State) (r : Request) (body : List Byte) (good rest : List (Nat × Nat)) (bad : Nat × Nat),
    s.AtHead 0x03 body r → readMaskItems body = some (good ++ bad :: rest) → (good.map Prod.fst).Nodup →
    (∀ x ∈ good, MaskItem x) → (¬ MaskItem bad ∨ bad.1 ∈ good.map Prod.fst) →
    exec .setNoticeMask s = .next { s with host := answered s.host r .badValue [u8 (good.length + 1)] }) ∧
  ∀ (s : State) (r : Request) (body : List Byte) (items : List (Nat × Nat)), s.AtHead 0x03 body r →
    readMaskItems body = some items → (items.map Prod.fst).Nodup → (∀ x ∈ items, MaskItem x) →
    ∃ t, exec .setNoticeMask s = .next t ∧
      (∀ n : NoticeKind, n ≠ .noticeOverflow → t.notices.masks.unmasked n =
        match items.find? fun x => x.1 == n.code with
        | some x => x.2 == 1
        | none => s.notices.masks.unmasked n) ∧
      (∃ again : List Notice,
        again = (items.flatMap fun x =>
          (NoticeKind.all.filter fun n =>
            n.code == x.1 && x.2 == 1 && !s.notices.masks.unmasked n).flatMap fun n =>
            ((s.notices.corridor.latchedData n).toList.map fun d =>
              { data := d, slot := none, stamp := s.stamp, again := true }) ++
            Slot.all.flatMap fun k => ((s.notices.slots.get k).latchedData n).toList.map fun d =>
              { data := d, slot := some k, stamp := s.stamp, again := true }) ∧
        t.notices.queue = s.notices.queue ++ again.take (32 - s.notices.queue.length) ∧
        t.notices.corridor.noticeOverflow =
          if again.length ≤ 32 - s.notices.queue.length then s.notices.corridor.noticeOverflow
          else
            { latched := true
              count := min 255 (s.notices.corridor.noticeOverflow.count +
                (again.length - (32 - s.notices.queue.length)))
              data := none }) ∧
      t.notices.slots = s.notices.slots ∧
      t.notices.corridor =
        { s.notices.corridor with noticeOverflow := t.notices.corridor.noticeOverflow } ∧
      t = { s with
        notices := t.notices
        host := answered s.host r .ok (NoticeKind.all.map fun n => boolByte (t.notices.masks.unmasked n)) }

/-- The warm reset, from any corridor state: what it clears, what it turns Stale or Empty, and what it keeps (R18,
R122, R180, R186). THE MODEL'S CHOICES: a character in progress on the line is not waited for, so the transmitter is
Free at once (log 22); the commands waiting (log 1) and the count of free values (log 6) are the model's own, and
stay. -/
def Obligations.WarmResetClearsAndKeeps : Prop :=
  ∀ (s : State) (r : Request), s.AtHead 0x04 [] r → ∃ t, exec .reset s = .next t ∧
    t.host = answered s.host r .ok [u8 s.corridor.state.code] ∧ t.pending = s.pending ∧ t.free = s.free ∧
    t.corridor.state = .idle ∧ t.corridor.startingPlan = none ∧ (∀ k, t.corridor.capacity.get k = ⟨0, 0⟩) ∧
    t.corridor.table = s.corridor.table ∧ t.corridor.settings = s.corridor.settings ∧ t.plans = s.plans ∧
    t.flow.hold = s.flow.hold ∧ t.notices.masks = s.notices.masks ∧ t.clock.masterTime = 0 ∧ t.clock.sequence = 0 ∧
    t.directory.active = none ∧ t.directory.pending = none ∧ t.directory.deadline = 0 ∧ t.directory.orders = [] ∧
    (∀ k x, (t.directory.dirs.get k).get x =
      match (s.directory.dirs.get k).get x with
      | .valid p => .stale p
      | .stale p => .stale p
      | .loading _ _ _ => .empty
      | .empty => .empty) ∧
    (∀ k, (t.directory.dirs.get k).bits = (s.directory.dirs.get k).bits) ∧
    t.line.transmitter = .free ∧ t.line.queue = [] ∧ t.line.assembly = none ∧ t.line.unchecked = [] ∧
    t.line.exchange = none ∧ t.line.beacon = .none ∧ t.line.sweep = none ∧ t.line.period = false ∧
    t.line.windowTime = 0 ∧ (∀ k, t.line.quality.get k = ⟨0, false⟩) ∧
    (∀ k, t.transition.records.get k = none) ∧ t.transition.tentative = none ∧ t.transition.held = [] ∧
    t.engine.results = none ∧ t.engine.inFlight = none ∧ (∀ k, t.flow.approaches.get k = none) ∧
    (∀ k, t.monitor.get k = if (s.corridor.table.get k).isSome then .initial else .vacant) ∧
    t.notices.corridor = .clear ∧ (∀ k, t.notices.slots.get k = .clear) ∧ t.notices.queue = []

/-! ### The layout, the plans and the settings -/

/-- R2: DEFINE JUNCTION's checks in their order, each refusal leaving all as it was. A field out of its range is named
by its place in the body, counted from 0 at the slot (R181; log 18). -/
def Obligations.DefinitionIsChecked : Prop :=
  ∀ (s : State) (r : Request) (body : List Byte) (b : Byte) (j : JunctionDef), s.AtHead 0x05 body r →
    readJunctionDef body = some (b, j) →
    (s.corridor.state ≠ .idle →
      exec .defineJunction s = .next { s with host := answered s.host r .wrongState [] }) ∧
    (s.corridor.state = .idle → NoSlot b →
      exec .defineJunction s = .next { s with host := answered s.host r .badValue [0] }) ∧
    ∀ k, s.corridor.state = .idle → IsSlot b k →
      (∀ n, FieldOut j n → (∀ m, m < n → ¬ FieldOut j m) →
        exec .defineJunction s = .next { s with host := answered s.host r .badValue [u8 n] }) ∧
      ((∀ n, ¬ FieldOut j n) → (∃ i d, i ≠ k ∧ s.corridor.table.get i = some d ∧ d.address = j.address) →
        exec .defineJunction s = .next { s with host := answered s.host r .addressInUse [] }) ∧
      ((∀ n, ¬ FieldOut j n) → (∀ i d, i ≠ k → s.corridor.table.get i = some d → d.address ≠ j.address) →
        ((∃ i d, NearestBelow s k i d ∧ j.position ≤ d.position) ∨
          (∃ i d, NearestAbove s k i d ∧ d.position ≤ j.position)) →
        exec .defineJunction s = .next { s with host := answered s.host r .orderViolation [] })

/-- A definition that passes the checks of R2 is stored, and the slot's records start anew, or are kept for the same
field address (R2, R3). Of the Notice Unit only the slot's LINE_QUALITY changes, whose current value falls where the
count starts anew (R147). The order check looks at the nearest defined slot on each side. -/
def Obligations.DefinitionIsStored : Prop :=
  ∀ (s : State) (r : Request) (body : List Byte) (b : Byte) (k : Slot) (j : JunctionDef), s.AtHead 0x05 body r →
    readJunctionDef body = some (b, j) → IsSlot b k → s.corridor.state = .idle →
    1 ≤ j.address → j.address ≤ 31 → j.position ≤ 20000 → 1 ≤ j.lanesIn → j.lanesIn ≤ 4 → 1 ≤ j.lanesOut →
    j.lanesOut ≤ 4 → 50 ≤ j.lengthIn → j.lengthIn ≤ 2000 → 50 ≤ j.lengthOut → j.lengthOut ≤ 2000 →
    (∀ i d, i ≠ k → s.corridor.table.get i = some d → d.address ≠ j.address) →
    (∀ i d, s.corridor.table.get i = some d → i.num < k.num →
      (∀ m : Slot, i.num < m.num → m.num < k.num → s.corridor.table.get m = none) → d.position < j.position) →
    (∀ i d, s.corridor.table.get i = some d → k.num < i.num →
      (∀ m : Slot, k.num < m.num → m.num < i.num → s.corridor.table.get m = none) → j.position < d.position) →
    ∃ t, exec .defineJunction s = .next t ∧
      t = { s with
        corridor := { s.corridor with table := s.corridor.table.set k (some j) }
        directory := { s.directory with dirs := t.directory.dirs }
        line := { s.line with quality := t.line.quality }
        monitor := t.monitor, notices := t.notices, host := answered s.host r .ok [] } ∧
      (∀ i, i ≠ k → t.directory.dirs.get i = s.directory.dirs.get i ∧ t.line.quality.get i = s.line.quality.get i ∧
        t.monitor.get i = s.monitor.get i) ∧
      match s.corridor.table.get k with
      | none => t.directory.dirs.get k = .initial ∧ t.monitor.get k = .initial ∧ QualityDiscarded s t k
      | some old =>
        t.monitor.get k = s.monitor.get k ∧
          if old.address = j.address then
            t.directory.dirs.get k = s.directory.dirs.get k ∧ t.line.quality.get k = s.line.quality.get k ∧
              t.notices = s.notices
          else t.directory.dirs.get k = .initial ∧ QualityDiscarded s t k

/-- R4: REMOVE JUNCTION's checks in their order, and what an accepted removal discards. -/
def Obligations.RemovalDiscardsTheSlot : Prop :=
  ∀ (s : State) (r : Request) (b : Byte), s.AtHead 0x06 [b] r →
    (s.corridor.state ≠ .idle →
      exec .removeJunction s = .next { s with host := answered s.host r .wrongState [] }) ∧
    (s.corridor.state = .idle → NoSlot b →
      exec .removeJunction s = .next { s with host := answered s.host r .badValue [0] }) ∧
    (∀ k, s.corridor.state = .idle → IsSlot b k → s.corridor.table.get k = none →
      exec .removeJunction s = .next { s with host := answered s.host r .notDefined [] }) ∧
    (∀ k, s.corridor.state = .idle → IsSlot b k → s.corridor.table.get k ≠ none →
      ∃ t, exec .removeJunction s = .next t ∧
        t = { s with
          corridor := { s.corridor with
            table := s.corridor.table.set k none, capacity := s.corridor.capacity.set k ⟨0, 0⟩ }
          directory := { s.directory with dirs := s.directory.dirs.set k .initial }
          line := { s.line with quality := s.line.quality.set k ⟨0, false⟩ }
          monitor := s.monitor.set k .vacant
          notices := t.notices
          host := answered s.host r .ok [] } ∧
        (∀ q, t.plans.get q = s.plans.get q ∧ ((s.plans.get q).ref = some k → ¬ Complete t q)) ∧
        QualityDiscarded s t k)

/-- A write of one tuning field, in its range, is taken in every corridor state and for every plan: the field is
stored, and nothing but the record and the reply changes. The reference slot of a plan in use or pending is to be
defined. The first write of a blank record also gives the four defaults to the fields it leaves unset (R19, R20, R21,
R26, R28). -/
def Obligations.TuningWriteStoresTheField : Prop :=
  ∀ (s : State) (r : Request) (pb code hi lo : Byte) (p : PlanNo) (v : Nat), s.AtHead 0x08 [pb, 0, code, hi, lo] r →
    pb.toNat = p.num → v = readU16 hi lo →
    (∀ c k g, (s.plans.get p).cycle = some c → (s.plans.get p).green.get k = some g → g + 100 ≤ c) →
    (∀ c o, (s.plans.get p).cycle = some c → (s.plans.get p).oRef = some o → o < c) →
    ∀ result : PlanRecord,
      ((code = 4 ∧ 30 ≤ v ∧ v ≤ 250 ∧ result = { s.plans.get p with sIn := some v }) ∨
        (code = 5 ∧ 30 ≤ v ∧ v ≤ 250 ∧ result = { s.plans.get p with sOut := some v }) ∨
        (code = 6 ∧ ∃ k : Slot, v = k.num ∧
          (InUse s p ∨ s.directory.pending = some p → s.corridor.table.get k ≠ none) ∧
          result = { s.plans.get p with ref := some k }) ∨
        (code = 7 ∧ v < (s.plans.get p).cycle.getD 2400 ∧ result = { s.plans.get p with oRef := some v }) ∨
        (code = 8 ∧ v ≤ 50 ∧ result = { s.plans.get p with loss := some v }) ∨
        (code = 9 ∧ 15 ≤ v ∧ v ≤ 40 ∧ result = { s.plans.get p with headway := some v }) ∨
        (code = 10 ∧ 9 ≤ v ∧ v ≤ 16 ∧ result = { s.plans.get p with wIn := some v }) ∨
        (code = 11 ∧ v ≤ 7 ∧ result = { s.plans.get p with wOut := some v })) →
      ∃ t complete, exec .writePlan s = .next t ∧ (complete = true ↔ Complete t p) ∧
        t = { s with
          plans := s.plans.set p (if s.plans.get p = PlanRecord.blank then firstWritten result else result)
          host := answered s.host r .ok [pb, boolByte complete] }

/-- The six checks of WRITE PLAN in their order (R19, R20, R24 to R27), for every list of items: a plan number out of
1..16 is named as item 0, and then an erase flag above 1 as the item after the last; the first item that names a field
named before, or a slot out of 1..12, is named; a structural write, an erase or one of C, a green or an image, to a
plan in use is refused with PLAN_ACTIVE, and to the pending plan with PLAN_PENDING; the first item whose value is out
of its range is named; and where the record that the write would leave breaks a relation, the first item that takes
part in it. Nothing changes. So, item by item: an erase of a plan in use or pending; a value out of its range; a C
below a stored green plus 100, or not above a stored O_ref; and a green before a C too small for another green. -/
def Obligations.WriteChecksItsValues : Prop :=
  (∀ (s : State) (r : Request) (pb eb : Byte) (items : List PlanItem), (∀ i ∈ items, Carried i) →
    s.AtHead 0x08 (pb :: eb :: items.flatMap itemBytes) r →
    ((pb.toNat = 0 ∨ 16 < pb.toNat) →
      exec .writePlan s = .next { s with host := answered s.host r .badValue [0] }) ∧
    ∀ p : PlanNo, pb.toNat = p.num →
      (1 < eb.toNat →
        exec .writePlan s = .next { s with host := answered s.host r .badValue [u8 (items.length + 1)] }) ∧
      ∀ erase : Bool, eb = boolByte erase →
        (∀ good bad rest, items = good ++ bad :: rest → NamesFields good →
          (¬ NamesSlot bad ∨ ∃ i ∈ good, i.sameField bad = true) →
          exec .writePlan s = .next { s with host := answered s.host r .badValue [u8 (good.length + 1)] }) ∧
        (NamesFields items → Structural erase items → InUse s p →
          exec .writePlan s = .next { s with host := answered s.host r .planActive [] }) ∧
        (NamesFields items → Structural erase items → ¬ InUse s p → s.directory.pending = some p →
          exec .writePlan s = .next { s with host := answered s.host r .planPending [] }) ∧
        ∀ base result good bad rest, base = (if erase then PlanRecord.blank else s.plans.get p) →
          NamesFields items → (Structural erase items → Writable s p) → items = good ++ bad :: rest →
          (StoresCycle base items result → (∀ i ∈ good, ItemFits s p result i) → ¬ ItemFits s p result bad →
            exec .writePlan s = .next { s with host := answered s.host r .badValue [u8 (good.length + 1)] }) ∧
          (Stores base items result → (∀ i ∈ items, ItemFits s p result i) → (∀ i ∈ good, ¬ TakesPart result i) →
            TakesPart result bad →
            exec .writePlan s = .next { s with host := answered s.host r .badValue [u8 (good.length + 1)] })) ∧
  ∀ (s : State) (r : Request) (pb : Byte) (p : PlanNo), pb.toNat = p.num →
    (InUse s p → s.AtHead 0x08 [pb, 1] r →
      exec .writePlan s = .next { s with host := answered s.host r .planActive [] }) ∧
    (¬ InUse s p → s.directory.pending = some p → s.AtHead 0x08 [pb, 1] r →
      exec .writePlan s = .next { s with host := answered s.host r .planPending [] }) ∧
    (∀ code hi lo, s.AtHead 0x08 [pb, 0, code, hi, lo] r → (code = 1 → Writable s p) →
      ValueOut (s.plans.get p) code.toNat (readU16 hi lo) →
      exec .writePlan s = .next { s with host := answered s.host r .badValue [1] }) ∧
    (∀ hi lo (k : Slot), s.AtHead 0x08 [pb, 0, 6, hi, lo] r → readU16 hi lo = k.num →
      (InUse s p ∨ s.directory.pending = some p) → s.corridor.table.get k = none →
      exec .writePlan s = .next { s with host := answered s.host r .badValue [1] }) ∧
    (∀ kb hi lo k, s.AtHead 0x08 [pb, 0, 2, kb, hi, lo] r → IsSlot kb k → Writable s p →
      (readU16 hi lo < 50 ∨ (s.plans.get p).cycle.getD 2400 < readU16 hi lo + 100) →
      exec .writePlan s = .next { s with host := answered s.host r .badValue [1] }) ∧
    (∀ hi lo, s.AtHead 0x08 [pb, 0, 1, hi, lo] r → Writable s p → 400 ≤ readU16 hi lo → readU16 hi lo ≤ 2400 →
      ((∃ k g, (s.plans.get p).green.get k = some g ∧ readU16 hi lo < g + 100) ∨
        ∃ o, (s.plans.get p).oRef = some o ∧ readU16 hi lo ≤ o) →
      exec .writePlan s = .next { s with host := answered s.host r .badValue [1] }) ∧
    ∀ kb gh gl ch cl k, s.AtHead 0x08 [pb, 0, 2, kb, gh, gl, 1, ch, cl] r → IsSlot kb k → Writable s p →
      400 ≤ readU16 ch cl → readU16 ch cl ≤ 2400 → 50 ≤ readU16 gh gl → readU16 gh gl + 100 ≤ readU16 ch cl →
      (∃ i g, i ≠ k ∧ (s.plans.get p).green.get i = some g ∧ readU16 ch cl < g + 100) →
      exec .writePlan s = .next { s with host := answered s.host r .badValue [1] }

/-- A write of C to a plan that is neither in use nor pending, and not blank: the record takes C, every other record
stays, and every directory slot is marked as the table of R125 says (R27, R28, R30, R125). The
relations are those of R27, not the stricter ones of a Request in 2.6: the model's reading (log 34). -/
def Obligations.CycleWriteMarksEveryCopy : Prop :=
  ∀ (s : State) (r : Request) (pb hi lo : Byte) (p : PlanNo) (c : Nat), s.AtHead 0x08 [pb, 0, 1, hi, lo] r →
    pb.toNat = p.num → c = readU16 hi lo → 400 ≤ c → c ≤ 2400 → ¬ InUse s p → s.directory.pending ≠ some p →
    s.plans.get p ≠ PlanRecord.blank → (∀ k g, (s.plans.get p).green.get k = some g → g + 100 ≤ c) →
    (∀ o, (s.plans.get p).oRef = some o → o < c) →
    ∃ t, exec .writePlan s = .next t ∧
      t = { s with
        plans := s.plans.set p { s.plans.get p with cycle := some c }
        directory := { s.directory with dirs := t.directory.dirs }, host := t.host } ∧
      (∃ complete : Bool, (complete = true ↔ Complete t p) ∧
        t.host = answered s.host r .ok [pb, boolByte complete]) ∧
      StructureChanged s t p

/-- A write that passes its checks stores every item: the record takes each named green, image and field, in any order
of the items, on an erased record when the erase flag is set, and every other field stays; a first write gives the four
defaults to the fields it leaves unset. A structural write marks every directory slot as the table of R125 says, and
any other leaves the directories. The reply says whether the plan is complete (R20, R21, R24 to R28, R30, R125). THE
MODEL'S READING: the relations are those of R27, not the stricter ones of a Request in 2.6 (log 34), and a write that
leaves a blank record blank is no first write (log 38). -/
def Obligations.AcceptedWriteStoresItsItems : Prop :=
  ∀ (s : State) (r : Request) (pb : Byte) (p : PlanNo) (erase : Bool) (items : List PlanItem)
    (base result : PlanRecord), s.AtHead 0x08 (pb :: boolByte erase :: items.flatMap itemBytes) r → pb.toNat = p.num →
    (items.Pairwise fun i j => i.sameField j = false) → base = (if erase then PlanRecord.blank else s.plans.get p) →
    Stores base items result → (∀ i ∈ items, ItemFits s p result i) → RecordFits result →
    (Structural erase items → Writable s p) →
    ∃ t complete, exec .writePlan s = .next t ∧ (complete = true ↔ Complete t p) ∧
      t = { s with
        plans := s.plans.set p
          (if base = PlanRecord.blank ∧ result ≠ PlanRecord.blank then firstWritten result else result)
        directory := { s.directory with dirs := t.directory.dirs }
        host := answered s.host r .ok [pb, boolByte complete] } ∧
      (Structural erase items → StructureChanged s t p) ∧
      (¬ Structural erase items → t.directory.dirs = s.directory.dirs)

/-- SET CORRIDOR with any list of items, its checks in the order of R184: the first item that names no setting, or one
named before, is refused by its number; the fallback plan outside Idle with WRONG_STATE; and then the first item whose
value is out of range by its number. A list that passes is stored at once: every named setting has its value, every
other stays, and the reply carries the number of items; where the fallback plan is among them every directory is
brought into line with it, and else none changes. So for one item, in every corridor state where it does not name the
fallback plan (R124, R183, R184). That of two items of one setting the second is named is the model's reading (log 46).
-/
def Obligations.SettingIsStored : Prop :=
  (∀ (s : State) (r : Request) (items : List (Byte × Nat)), (∀ x ∈ items, x.2 < 65536) →
    s.AtHead 0x0A (items.flatMap fun x => x.1 :: u16 x.2) r →
    (∀ good bad rest, items = good ++ bad :: rest → (∀ x ∈ good, KnownSetting x.1) → (good.map Prod.fst).Nodup →
      (¬ KnownSetting bad.1 ∨ bad.1 ∈ good.map Prod.fst) →
      exec .setCorridor s = .next { s with host := answered s.host r .badValue [u8 (good.length + 1)] }) ∧
    ((∀ x ∈ items, KnownSetting x.1) → (items.map Prod.fst).Nodup →
      (11 ∈ items.map Prod.fst → s.corridor.state ≠ .idle →
        exec .setCorridor s = .next { s with host := answered s.host r .wrongState [] }) ∧
      ((11 ∈ items.map Prod.fst → s.corridor.state = .idle) →
        (∀ good bad rest, items = good ++ bad :: rest → (∀ x ∈ good, SettingFits x) → ¬ SettingFits bad →
          exec .setCorridor s = .next { s with host := answered s.host r .badValue [u8 (good.length + 1)] }) ∧
        ((∀ x ∈ items, SettingFits x) → ∃ t, exec .setCorridor s = .next t ∧
          t = { s with
            corridor := { s.corridor with settings := t.corridor.settings }
            directory := { s.directory with dirs := t.directory.dirs }
            host := answered s.host r .ok [u8 items.length] } ∧
          (∀ i : SettingId, t.corridor.settings.value i =
            match items.find? fun x => x.1.toNat == i.code with
            | some x => x.2
            | none => s.corridor.settings.value i) ∧
          ((∀ f : PlanNo, (11, f.num) ∉ items) → t.directory.dirs = s.directory.dirs) ∧
          ∀ f : PlanNo, (11, f.num) ∈ items → AlignedWith s t f)))) ∧
  ∀ (s : State) (r : Request) (cb hi lo : Byte),
    (s.AtHead 0x0A [cb, hi, lo] r →
      (cb.toNat = 0 ∨ 18 < cb.toNat →
        exec .setCorridor s = .next { s with host := answered s.host r .badValue [1] }) ∧
      (cb.toNat = 11 → s.corridor.state ≠ .idle →
        exec .setCorridor s = .next { s with host := answered s.host r .wrongState [] }) ∧
      ∀ i : SettingId, cb.toNat = i.code →
        ((i = .fallback → s.corridor.state = .idle) → i.inRange (readU16 hi lo) = false →
          exec .setCorridor s = .next { s with host := answered s.host r .badValue [1] }) ∧
        (i ≠ .fallback → i.inRange (readU16 hi lo) = true →
          ∃ t, exec .setCorridor s = .next t ∧
            t = { s with
              corridor := { s.corridor with settings := t.corridor.settings }
              host := answered s.host r .ok [1] } ∧
            t.corridor.settings.value i = readU16 hi lo ∧
            ∀ j, j ≠ i → t.corridor.settings.value j = s.corridor.settings.value j)) ∧
    ∀ (i : SettingId) (h2 l2 : Byte), cb.toNat = i.code → s.AtHead 0x0A [cb, hi, lo, cb, h2, l2] r →
      exec .setCorridor s = .next { s with host := answered s.host r .badValue [2] }

/-- Writing the fallback setting brings every directory into line: with a plan f, slot 0 becomes Empty unless it holds
f, and every other slot holding f becomes Empty; with none, no slot changes; the bits stay (R124, R184). -/
def Obligations.FallbackSettingAlignsEveryDirectory : Prop :=
  ∀ (s : State) (r : Request) (b : Byte), s.AtHead 0x0A [11, 0, b] r → s.corridor.state = .idle → b.toNat ≤ 16 →
    ∃ t, exec .setCorridor s = .next t ∧
      t = { s with
        corridor := { s.corridor with settings := { s.corridor.settings with
          fallback := t.corridor.settings.fallback } }
        directory := { s.directory with dirs := t.directory.dirs }, host := answered s.host r .ok [1] } ∧
      (b.toNat = 0 → t.corridor.settings.fallback = none ∧ t.directory.dirs = s.directory.dirs) ∧
      ∀ f : PlanNo, b.toNat = f.num → t.corridor.settings.fallback = some f ∧ AlignedWith s t f

/-! ### The run of the corridor -/

/-- START's checks in their order (R7), and an accepted START with a switch deadline in its range: the corridor is
Starting on plan p, which is pending with a count that START's own cycle zero has decreased; the storage capacities are
those of R5; the runtime records start anew; of the download list only an order On line stays, and behind it stand
orders for p and then for the fallback plan, each in ascending slot order, wherever the plan is needed, not ordered and
not Loading; TRANSITION_BLOCKED is not current; master time and sequence number are 0; and a beacon that commands every
defined junction FREE on slot 0 for C waits at the head of the transmit queue (R5, R7, R8, R60, R93, R97, R129, R167).
-/
def Obligations.StartEntersStarting : Prop :=
  ∀ (s : State) (r : Request) (b : Byte), s.AtHead 0x0C [b] r →
    (s.corridor.state ≠ .idle →
      exec .start s = .next { s with host := answered s.host r .wrongState [] }) ∧
    (s.corridor.state = .idle → (b.toNat = 0 ∨ 16 < b.toNat) →
      exec .start s = .next { s with host := answered s.host r .badValue [0] }) ∧
    ∀ p : PlanNo, s.corridor.state = .idle → b.toNat = p.num →
      ((∀ k, s.corridor.table.get k = none) →
        exec .start s = .next { s with host := answered s.host r .notDefined [] }) ∧
      ((∃ k, s.corridor.table.get k ≠ none) → ¬ Complete s p →
        exec .start s = .next { s with host := answered s.host r .planIncomplete [b] }) ∧
      (∀ f : PlanNo, (∃ k, s.corridor.table.get k ≠ none) → Complete s p →
        s.corridor.settings.fallback = some f → ¬ Complete s f →
        exec .start s = .next { s with host := answered s.host r .planIncomplete [u8 f.num] }) ∧
      ∀ c, (∃ k, s.corridor.table.get k ≠ none) → Complete s p →
        (∀ f, s.corridor.settings.fallback = some f → Complete s f) → 2 ≤ s.corridor.settings.switchDeadline →
        (s.plans.get p).cycle = some c →
        ∃ t, exec .start s = .next t ∧ t.host = answered s.host r .ok [] ∧ t.plans = s.plans ∧
          t.pending = s.pending ∧
          t.corridor = { s.corridor with
            state := .starting, startingPlan := some p, capacity := t.corridor.capacity } ∧
          (∀ k, s.corridor.table.get k = none → t.corridor.capacity.get k = ⟨0, 0⟩) ∧
          (∀ k j, s.corridor.table.get k = some j →
            (∀ i d, NearestAbove s k i d →
              Storage (d.position - j.position) j.lanesIn (t.corridor.capacity.get k).inbound) ∧
            ((∀ i d, ¬ NearestAbove s k i d) →
              Storage j.lengthIn j.lanesIn (t.corridor.capacity.get k).inbound) ∧
            (∀ i d, NearestBelow s k i d →
              Storage (j.position - d.position) j.lanesOut (t.corridor.capacity.get k).outbound) ∧
            ((∀ i d, ¬ NearestBelow s k i d) →
              Storage j.lengthOut j.lanesOut (t.corridor.capacity.get k).outbound)) ∧
          t.clock = { masterTime := 0, sequence := 0, length := c } ∧ t.directory.pending = some p ∧
          t.directory.active = none ∧ t.directory.deadline = s.corridor.settings.switchDeadline - 1 ∧
          t.directory.dirs = s.directory.dirs ∧
          (∃ kept ps fs, kept = s.directory.orders.filter (fun o => o.stage == .onLine) ∧
            Ascending ps ∧ Ascending fs ∧
            (∀ k, k ∈ ps ↔ s.corridor.table.get k ≠ none ∧
              (¬ HoldsValid s k p ∨
                (s.corridor.settings.fallback = some p ∧ (s.directory.dirs.get k).d0 ≠ .valid p)) ∧
              ¬ OrderedAt kept k p ∧ ¬ LoadingAt s k p) ∧
            (∀ k, k ∈ fs ↔ ∃ f, s.corridor.settings.fallback = some f ∧ f ≠ p ∧
              s.corridor.table.get k ≠ none ∧ (s.directory.dirs.get k).d0 ≠ .valid f ∧
              ¬ OrderedAt kept k f ∧ ¬ LoadingAt s k f) ∧
            t.directory.orders = kept ++ ps.map (newOrder p) ++
              s.corridor.settings.fallback.toList.flatMap fun f => fs.map (newOrder f)) ∧
          t.flow.mode = s.flow.hold.getD .balanced ∧ t.flow.hold = s.flow.hold ∧
          t.engine.results = none ∧ t.engine.inFlight = none ∧ t.transition.adoptAll = false ∧
          (∀ k, (s.corridor.table.get k = none → t.monitor.get k = .vacant ∧ t.flow.approaches.get k = none ∧
              t.transition.records.get k = none) ∧
            (s.corridor.table.get k ≠ none → t.monitor.get k = .initial ∧
              t.flow.approaches.get k = some ⟨.initial, .initial⟩ ∧ t.transition.records.get k = some .initial)) ∧
          t.notices.corridor.transitionBlocked.current = false ∧
          t.line.beacon = .waiting s.corridor.settings.latenessLimit ∧
          ∃ e, t.line.queue = .beacon
              { sequence := 0, cycle := c, plan := some p, entries := e, stopping := false } :: s.line.queue ∧
            e = Slot.all.filterMap fun k => (s.corridor.table.get k).map fun j =>
              { address := j.address, command := .free, slot := .d0, length := c }

/-- An accepted STOP, from Starting or Running: the corridor is Stopping, no plan is pending, the active plan stays, a
waiting beacon stays, and the computation in flight is discarded with the results kept. An order On line stays, not to
be retried; every other download is withdrawn with its frame, and the slot it was Loading becomes its prior content or
Empty as R133 says, exactly so where it is the junction's only order; every other directory slot stays. Keeping the
deadline count is the model's reading (log 12). In Idle and in Stopping it is refused with WRONG_STATE (R10, R55, R129,
R133). -/
def Obligations.StopEntersStopping : Prop :=
  (∀ (s : State) (r : Request), s.AtHead 0x0D [] r → (s.corridor.state = .idle ∨ s.corridor.state = .stopping) →
    exec .stop s = .next { s with host := answered s.host r .wrongState [] }) ∧
  ∀ (s : State) (r : Request), s.AtHead 0x0D [] r → RecordsLegal s →
    (s.corridor.state = .starting ∨ s.corridor.state = .running) →
    ∃ t, exec .stop s = .next t ∧
      t = { s with
        corridor := { s.corridor with state := .stopping }
        engine := { s.engine with inFlight := none }
        directory := { s.directory with pending := none, dirs := t.directory.dirs, orders := t.directory.orders }
        line := { s.line with queue := t.line.queue }
        notices := t.notices, host := answered s.host r .ok [] } ∧
      t.directory.orders = ((s.directory.orders.filter fun o => o.stage == .onLine).map
        fun o => { o with noRetry := true }) ∧
      (∀ k x, (∀ o ∈ s.directory.orders, o.stage ≠ .onLine → o.slot = k → o.target ≠ some x) →
        (t.directory.dirs.get k).get x = (s.directory.dirs.get k).get x) ∧
      (∀ o ∈ s.directory.orders, ∀ x mark prior, o.stage ≠ .onLine → o.target = some x →
        (s.directory.dirs.get o.slot).get x = .loading o.plan mark prior →
        ((t.directory.dirs.get o.slot).get x = .empty ∨
          (o.attempts = 1 ∧ o.stage = .queued ∧ (t.directory.dirs.get o.slot).get x = prior.toSlot)) ∧
        ((∀ o' ∈ s.directory.orders, o'.slot = o.slot → o' = o) →
          (t.directory.dirs.get o.slot).get x = withdrawnSlot (s.directory.dirs.get o.slot) x o prior)) ∧
      (∀ k, (t.directory.dirs.get k).bits = (s.directory.dirs.get k).bits) ∧
      (∀ o ∈ s.directory.orders, o.stage ≠ .onLine →
        ∀ f, TxFrame.load f ∈ t.line.queue → ¬ (f.slot = o.slot ∧ f.plan = o.plan)) ∧
      (∀ b, TxFrame.beacon b ∈ s.line.queue ↔ TxFrame.beacon b ∈ t.line.queue) ∧
      t.notices.corridor.corridorState.data = some (.corridorState s.corridor.state .stopping)

/-- SWITCH PLAN's checks in their order, and an accepted SWITCH PLAN p: p is pending with the switch deadline as its
count, and in a legal state every needed plan, p among them, has an order at each defined junction; with the download
period closed exactly the orders that were lacking have joined the list. The reply carries p, the count and the number
of junctions that lack p (R129, R135). -/
def Obligations.SwitchMakesThePlanPending : Prop :=
  ∀ (s : State) (r : Request) (b : Byte), s.AtHead 0x0E [b] r →
    (s.corridor.state ≠ .running →
      exec .switchPlan s = .next { s with host := answered s.host r .wrongState [] }) ∧
    (s.corridor.state = .running → 16 < b.toNat →
      exec .switchPlan s = .next { s with host := answered s.host r .badValue [0] }) ∧
    ∀ p : PlanNo, s.corridor.state = .running → b.toNat = p.num →
      (¬ Complete s p →
        exec .switchPlan s = .next { s with host := answered s.host r .planIncomplete [b] }) ∧
      (Complete s p → s.directory.active = some p →
        exec .switchPlan s = .next { s with host := answered s.host r .planActive [] }) ∧
      (Complete s p → s.directory.active ≠ some p → s.directory.pending ≠ none →
        exec .switchPlan s = .next { s with host := answered s.host r .planPending [] }) ∧
      (Complete s p → s.directory.active ≠ some p → s.directory.pending = none →
        ∃ t n, exec .switchPlan s = .next t ∧
          t = { s with
            directory := { t.directory with
              active := s.directory.active, pending := some p, deadline := s.corridor.settings.switchDeadline }
            line := { s.line with queue := t.line.queue }, free := t.free
            host := answered s.host r .ok [b, u8 s.corridor.settings.switchDeadline, u8 n] } ∧
          (∃ lacking : List Slot, lacking.Nodup ∧ n = lacking.length ∧
            ∀ k, k ∈ lacking ↔ s.corridor.table.get k ≠ none ∧ ¬ HoldsValid s k p) ∧
          (RecordsLegal s → DirectoryLegal s → ∀ k q, s.corridor.table.get k ≠ none →
            ((q = p ∧ ¬ HoldsValid s k p) ∨ NeededAt s k q) → OrderedAt t.directory.orders k q) ∧
          (s.line.period = false → t.line.queue = s.line.queue ∧ t.directory.dirs = s.directory.dirs ∧
            OrdersCreated s t ∧ ∀ k, s.corridor.table.get k ≠ none → ¬ HoldsValid s k p →
              OrderedAt t.directory.orders k p ∨ LoadingAt s k p))

/-- SWITCH PLAN 0 in Running: a pending plan p is pending no more. When p is not the fallback plan, an order for it
that is On line stays, not to be retried, and every other is withdrawn; with the download period closed every other
order stands, the slot that a withdrawn order was Loading becomes its prior content or Empty as R133 says, and every
other directory slot stays. With nothing pending, nothing changes (R133, R136). THE MODEL'S READING (log 39): where the
prior content that comes back is the active plan Valid, the plan has become Valid there, so that a junction Excluded
for want of it returns to Absent as R118 says; no other step record changes. -/
def Obligations.CancelWithdrawsTheSwitch : Prop :=
  ∀ (s : State) (r : Request), s.AtHead 0x0E [0] r → s.corridor.state = .running → RecordsLegal s →
    (s.directory.pending = none → exec .switchPlan s = .next { s with host := answered s.host r .ok [0] }) ∧
    (∀ p, s.directory.pending = some p → s.corridor.settings.fallback = some p →
      exec .switchPlan s = .next { s with
        directory := { s.directory with pending := none, deadline := 0 }
        host := answered s.host r .ok [u8 p.num] }) ∧
    (∀ p, s.directory.pending = some p → s.corridor.settings.fallback ≠ some p →
      ∃ t, exec .switchPlan s = .next t ∧
        t = { s with
          directory := { t.directory with active := s.directory.active, pending := none, deadline := 0 }
          line := { s.line with queue := t.line.queue }, free := t.free
          monitor := t.monitor, notices := t.notices, host := answered s.host r .ok [u8 p.num] } ∧
        (∀ o ∈ t.directory.orders, o.plan = p → o.stage = .onLine ∧ o.noRetry = true) ∧
        (s.line.period = false →
          (∀ k, (s.monitor.get k).state = .excluded → (s.monitor.get k).cause = .plan →
            (∃ q, s.directory.active = some q ∧ ¬ HoldsValid s k q ∧ HoldsValid t k q) →
            t.monitor.get k = { s.monitor.get k with state := .absent, cause := .none, failures := 0 } ∧
              (t.notices.slots.get k).stepChange.data = some (.stepChange .excluded .absent .plan)) ∧
          (∀ k, ¬ ((s.monitor.get k).state = .excluded ∧ (s.monitor.get k).cause = .plan ∧
              ∃ q, s.directory.active = some q ∧ ¬ HoldsValid s k q ∧ HoldsValid t k q) →
            t.monitor.get k = s.monitor.get k ∧ t.notices.slots.get k = s.notices.slots.get k) ∧
          t.directory.orders = (s.directory.orders.filter fun o => o.plan != p || o.stage == .onLine).map
            (fun o => if o.plan = p then { o with noRetry := true } else o) ∧
          (∀ k x, (∀ o ∈ s.directory.orders, o.plan = p → o.stage ≠ .onLine → o.slot = k → o.target ≠ some x) →
            (t.directory.dirs.get k).get x = (s.directory.dirs.get k).get x) ∧
          ∀ o ∈ s.directory.orders, ∀ x mark prior, o.plan = p → o.stage ≠ .onLine → o.target = some x →
            (s.directory.dirs.get o.slot).get x = .loading p mark prior →
            (t.directory.dirs.get o.slot).get x = withdrawnSlot (s.directory.dirs.get o.slot) x o prior))

/-- PRELOAD PLAN p of a complete plan in Starting or Running, the download period closed: one order joins the list for
each defined junction that lacks p Valid, has no order for it and no slot Loading it, and has no slot Loading a plan
that is neither active, pending nor the fallback plan; the reply carries their number. THE MODEL'S CHOICE (log 17):
they join in ascending slot order, which the manual states for START alone. Outside Starting and Running, and for a
plan that is not complete, it answers 0 and does nothing; a number outside 1..16 is refused with BAD_VALUE (R129,
R137). -/
def Obligations.PreloadCreatesOrders : Prop :=
  ∀ (s : State) (r : Request) (b : Byte), s.AtHead 0x0F [b] r →
    (b.toNat = 0 ∨ 16 < b.toNat →
      exec .preloadPlan s = .next { s with host := answered s.host r .badValue [0] }) ∧
    ∀ p : PlanNo, b.toNat = p.num →
    (s.corridor.state = .idle ∨ s.corridor.state = .stopping ∨ ¬ Complete s p →
      exec .preloadPlan s = .next { s with host := answered s.host r .ok [b, 0] }) ∧
    (s.corridor.state = .starting ∨ s.corridor.state = .running → Complete s p → s.line.period = false →
      ∃ ks : List Slot, Ascending ks ∧ (∀ k, k ∈ ks ↔ PreloadWanted s p k) ∧
        exec .preloadPlan s = .next { s with
          directory := { s.directory with orders := s.directory.orders ++ ks.map (newOrder p) }
          host := answered s.host r .ok [b, u8 ks.length] })

/-- A download in the download period, its order made by PRELOAD PLAN for one junction k with no order Waiting: with
fewer than 4 frames queued, the plan is placed as R127 and R128 say, the target becomes Loading with its prior content,
a victim's own download is given up, and the frame, with the content of the Plan Table, joins the transmit queue at
attempt 1. Where every slot is barred and the plan is not needed, the order is removed; with 4 frames queued it waits
(R127, R128, R129, R130, R137). The running slot takes no download (R130): THE MODEL'S READING (log 43), an order whose
place that is, so that its plan is not needed there, is removed with no download. -/
def Obligations.DownloadIsPlacedAndQueued : Prop :=
  (∀ (s : State) (r : Request) (b : Byte) (p q : PlanNo) (k : Slot) (x : DirSlot) (o : Order), s.AtHead 0x0F [b] r →
    b.toNat = p.num → (s.corridor.state = .starting ∨ s.corridor.state = .running) → Complete s p →
    s.line.period = true → s.line.queue.length < 4 → (∀ j, ¬ PreloadWanted s p j) →
    (s.directory.orders.filter fun y => y.stage == .waiting) = [o] → o.slot = k → o.plan = q → o.target = none →
    s.directory.active = some q → (s.directory.dirs.get k).get x = .valid q →
    (∀ y, y ≠ x → ((s.directory.dirs.get k).get y).plan ≠ some q) →
    (s.corridor.settings.fallback = some q → x = .d0) →
    exec .preloadPlan s = .next { s with
      directory := { s.directory with
        orders := s.directory.orders.filter fun y => !(decide (y.slot = k ∧ y.plan = q)) }
      host := answered s.host r .ok [b, 0] }) ∧
  ∀ (s : State) (r : Request) (b : Byte) (p : PlanNo) (k : Slot) (content : LoadContent), s.AtHead 0x0F [b] r →
    b.toNat = p.num → (s.corridor.state = .starting ∨ s.corridor.state = .running) → Complete s p →
    s.line.period = true → (∀ o ∈ s.directory.orders, o.stage ≠ .waiting) → (∀ j, PreloadWanted s p j ↔ j = k) →
    (s.plans.get p).cycle = some content.cycle → (s.plans.get p).green.get k = some content.green →
    content.image = (s.plans.get p).image.get k →
    (∀ x, PlacedAt s k p x → (∀ q, s.directory.active = some q → (s.directory.dirs.get k).get x ≠ .valid q) →
      s.line.queue.length < 4 →
      ∃ t prior, exec .preloadPlan s = .next t ∧
        t = { s with
          directory := { s.directory with
            dirs := s.directory.dirs.set k ((s.directory.dirs.get k).set x (.loading p false prior))
            orders := t.directory.orders }
          line := { s.line with queue := t.line.queue }
          host := answered s.host r .ok [b, 1] } ∧
        (match (s.directory.dirs.get k).get x with
          | .empty => prior = .empty
          | .valid q => prior = .valid q
          | .stale q => prior = .stale q
          | .loading q _ former => prior =
              if ∃ o ∈ s.directory.orders, o.slot = k ∧ o.plan = q ∧ o.attempts = 1 ∧ o.stage = .queued then former
              else .empty) ∧
        ∃ gone : Order → Bool,
          (∀ o, gone o = true ↔
            o.slot = k ∧ ∃ mark former, (s.directory.dirs.get k).get x = .loading o.plan mark former) ∧
          t.directory.orders = (s.directory.orders.filter fun o => !gone o) ++
            [{ newOrder p k with stage := .queued, attempts := 1, target := some x, content := some content }] ∧
          t.line.queue = (s.line.queue.filter fun
              | .beacon _ => true
              | .load f => !gone (newOrder f.plan f.slot)) ++
            [.load { slot := k, plan := p, target := x, content := content }]) ∧
    ((∀ x, Barred s k p x) → (∀ x, ((s.directory.dirs.get k).get x).plan ≠ some p) →
      s.directory.active ≠ some p → s.directory.pending ≠ some p → s.corridor.settings.fallback ≠ some p →
      s.line.queue.length < 4 →
      exec .preloadPlan s = .next { s with host := answered s.host r .ok [b, 1] }) ∧
    (4 ≤ s.line.queue.length →
      exec .preloadPlan s = .next { s with
        directory := { s.directory with orders := s.directory.orders ++ [newOrder p k] }
        host := answered s.host r .ok [b, 1] })

/-- An accepted IMAGE ACK completes the download: the target slot becomes Valid, or Stale if it was marked, it counts
as used, the order leaves the list, every other order stays, and the exchange ends. Where the corridor is Running and
the slot has become Valid with the active plan, a junction Excluded for want of it returns to Absent, with STEP_CHANGE;
else no step record changes. This holds in the open download period too, where the queue holds 4 frames or no order is
Waiting, so that no further frame is queued (R118, R123, R130, R131, R151, R177). -/
def Obligations.ImageAckCompletesTheDownload : Prop :=
  ∀ (s : State) (e : Exchange) (o : Order) (x : DirSlot) (mark : Bool) (prior : Content) (carrier : Bool),
    Listening s e → e.kind = .download → QueuesNoFrame s →
    (s.directory.orders.find? fun y => y.slot == e.slot && y.stage == .onLine) = some o → o.target = some x →
    (s.directory.dirs.get e.slot).get x = .loading o.plan mark prior →
    ∃ t, exec (.corridorFrameReceived
        (lineFrame e.address 0x83 [0, u8 x.num, u8 o.plan.num]) carrier true) s = .next t ∧
      t = { s with
        directory := { s.directory with dirs := t.directory.dirs, orders := t.directory.orders }
        line := { s.line with
          exchange := none, transmitter := .free, txChars := [], carrier := carrier, quietFor := none }
        monitor := t.monitor, notices := t.notices, free := t.free } ∧
      (∀ k, k ≠ e.slot → t.directory.dirs.get k = s.directory.dirs.get k) ∧
      t.directory.dirs.get e.slot =
        used ((s.directory.dirs.get e.slot).set x (if mark then .stale o.plan else .valid o.plan)) x ∧
      t.directory.orders = (s.directory.orders.filter fun y => !(decide (y.slot = o.slot ∧ y.plan = o.plan))) ∧
      (s.corridor.state = .running → s.directory.active = some o.plan → mark = false →
        (s.monitor.get e.slot).state = .excluded → (s.monitor.get e.slot).cause = .plan →
        t.monitor = s.monitor.set e.slot
            { s.monitor.get e.slot with state := .absent, cause := .none, failures := 0 } ∧
          (t.notices.slots.get e.slot).stepChange.data = some (.stepChange .excluded .absent .plan)) ∧
      (¬ (s.corridor.state = .running ∧ s.directory.active = some o.plan ∧ mark = false ∧
          (s.monitor.get e.slot).state = .excluded ∧ (s.monitor.get e.slot).cause = .plan) →
        t.monitor = s.monitor ∧ t.notices = s.notices)

/-- A download exchange that ends in no acceptable acknowledgement: at the end of the window a timeout, and on an IMAGE
ACK that reports the load refused or names another slot or plan a refusal. Below 3 attempts the order waits for a retry
with its slot still Loading, unless it is not to be retried; else the download has failed: the slot becomes Empty, the
order leaves the list, and DOWNLOAD_FAILED rises with its data; every other order stays. This holds where no frame
follows: with the download period closed or 4 frames queued, and for a failed download also with no order Waiting. In
an open period with room in the transmit queue and no other order Waiting, the retry that falls due, after a timeout or
a refusal, is queued at once, with the same target and content, as the next attempt (R130, R132, R151, R153, R177). -/
def Obligations.FailedDownloadIsRetried : Prop :=
  ∀ (s : State) (e : Exchange) (o : Order) (x : DirSlot) (mark : Bool) (prior : Content),
    Listening s e → e.kind = .download →
    (s.directory.orders.find? fun y => y.slot == e.slot && y.stage == .onLine) = some o → o.target = some x →
    (s.directory.dirs.get e.slot).get x = .loading o.plan mark prior →
    ∀ event timedOut after, EndsUnaccepted s e o x event timedOut after →
      ((s.line.period = false ∨ 4 ≤ s.line.queue.length ∨
          ((3 ≤ o.attempts ∨ o.noRetry = true) ∧ ∀ y ∈ s.directory.orders, y.stage ≠ .waiting)) →
        ∃ t, exec event s = .next t ∧
          t = { s with directory := t.directory, notices := t.notices, free := t.free, line := after } ∧
          LoadFails s t o x timedOut) ∧
      ∀ content, s.line.period = true → s.line.queue.length < 4 → (∀ y ∈ s.directory.orders, y.stage ≠ .waiting) →
        (s.directory.orders.filter fun y => decide (y.slot = o.slot ∧ y.plan = o.plan)) = [o] →
        o.content = some content → o.attempts < 3 → o.noRetry = false →
        ∃ t, exec event s = .next t ∧
          t = { s with
            directory := { s.directory with orders := s.directory.orders.map fun y =>
              if y.slot = o.slot ∧ y.plan = o.plan then { y with stage := .queued, attempts := y.attempts + 1 }
              else y }
            free := t.free
            line := { after with
              queue := s.line.queue ++ [.load { slot := o.slot, plan := o.plan, target := x, content := content }] } }

/-- A cycle zero with a plan p pending: the count is decreased, and p is committed when the first condition of R138
holds or the count runs out; else it stays pending. A commit makes p active, ends Starting, and fixes the cycle's
length at p's C (R9, R13, R14, R138, R139). THE MODEL'S CHOICE (log 27): cycle zero is taken at any master time, once
the events of the cycle are over. -/
def Obligations.CycleZeroDecidesTheCommit : Prop :=
  ∀ (s : State) (p : PlanNo) (c : Nat), CycleFinished s →
    (s.corridor.state = .starting ∨ s.corridor.state = .running) → s.directory.pending = some p →
    (s.plans.get p).cycle = some c →
    ∃ t, exec .cycleZero s = .next t ∧ t.plans = s.plans ∧ t.flow = s.flow ∧ t.host = s.host ∧
      t.clock.masterTime = 0 ∧ t.clock.sequence = (s.clock.sequence + 1) % 256 ∧
      ((CommitReady s p ∨ s.directory.deadline ≤ 1) →
        t.directory.active = some p ∧ t.directory.pending = none ∧ t.directory.deadline = 0 ∧
        t.corridor = { s.corridor with state := .running } ∧ t.clock.length = c ∧
        (∀ k, s.corridor.table.get k ≠ none → (s.monitor.get k).state = .startingFree →
          (HoldsValid s k p → (t.monitor.get k).state = .absent) ∧
          (¬ HoldsValid s k p → (t.monitor.get k).state = .excluded ∧ (t.monitor.get k).cause = .plan)) ∧
        (∀ k, (s.monitor.get k).state = .released → t.monitor.get k = s.monitor.get k)) ∧
      (¬ CommitReady s p → 1 < s.directory.deadline →
        t.directory = { s.directory with deadline := s.directory.deadline - 1 } ∧ t.corridor = s.corridor ∧
        t.monitor = s.monitor ∧ t.engine = s.engine ∧ t.notices = s.notices)

/-- A commit (R116, R117, R123, R139, R140): each defined junction moves as the table of R116 says, a Confirming or
InStep one whose C changes being Seeking again; a junction's only directory slot with the plan counts as used;
PLAN_COMMITTED carries the previous plan, the new one, whether the commit is by deadline and how many junctions lack
the plan; PLAN_EXCLUSION rises at a commit by deadline that excludes any, with the junctions that would have been
commanded RUN, in ascending slot order (log 47), and not else. Every plan that is then needed at a defined junction
with neither an order nor a slot Loading it gets an order at the end of the list (R129). Adopt-all is set. The commit
that ends Starting makes every model none; one in Running that changes C reduces every model, target and computed
offset mod the new C, and that cycle's RUN entries carry adj 0, Aligned, with length C and no skew (R57, R83, R94);
that a junction with no model and one with a pending skew do so too is read from R94's table (log 14). THE MODEL'S
CHOICE (log 27): cycle zero is taken at any master time, once the events of the cycle are over. -/
def Obligations.CommitMovesEveryJunction : Prop :=
  ∀ (s : State) (p : PlanNo) (c : Nat), CycleFinished s →
    (s.corridor.state = .starting ∨ s.corridor.state = .running) → s.directory.pending = some p →
    (s.plans.get p).cycle = some c → (CommitReady s p ∨ s.directory.deadline ≤ 1) →
    ∃ t byDeadline, exec .cycleZero s = .next t ∧ (byDeadline = true ↔ ¬ CommitReady s p) ∧
      (∀ k, s.corridor.table.get k = none → t.monitor.get k = s.monitor.get k) ∧
      (∀ k, s.corridor.table.get k ≠ none → HoldsValid s k p →
        t.monitor.get k =
          match (s.monitor.get k).state with
          | .startingFree => { s.monitor.get k with state := .absent }
          | .confirming | .inStep =>
            if c = s.clock.length then s.monitor.get k else { s.monitor.get k with state := .seeking, run := 0 }
          | .excluded => { s.monitor.get k with state := .absent, failures := 0, cause := .none }
          | .absent | .seeking | .yielded | .released | .vacant => s.monitor.get k) ∧
      (∀ k, s.corridor.table.get k ≠ none → ¬ HoldsValid s k p →
        t.monitor.get k =
          match (s.monitor.get k).state with
          | .startingFree | .absent | .seeking | .confirming | .inStep | .yielded | .excluded =>
            { s.monitor.get k with state := .excluded, cause := .plan }
          | .released | .vacant => s.monitor.get k) ∧
      (∀ k, s.corridor.table.get k ≠ none → (t.monitor.get k).state ≠ (s.monitor.get k).state →
        (t.notices.slots.get k).stepChange.data =
          some (.stepChange (s.monitor.get k).state (t.monitor.get k).state .commit)) ∧
      (∀ k x, s.corridor.table.get k ≠ none →
        (∀ y, (s.directory.dirs.get k).get y = .valid p ↔ y = x) →
        t.directory.dirs.get k = used (s.directory.dirs.get k) x) ∧
      t.transition.adoptAll = true ∧ OrdersCreated s t ∧
      (s.corridor.state = .starting → ∀ k, t.transition.records.get k =
        (s.transition.records.get k).map fun a => { a with model := .none }) ∧
      (s.corridor.state = .running → c = s.clock.length →
        t.transition.records = s.transition.records ∧ t.engine.results = s.engine.results) ∧
      (s.corridor.state = .running → c ≠ s.clock.length →
        (∀ k, t.transition.records.get k = (s.transition.records.get k).map fun a =>
          { a with model := reduced c a.model, target := a.target.map fun o => o % c }) ∧
        (∀ res, s.engine.results = some res → ∃ res', t.engine.results = some res' ∧
          ∀ k, res'.offset.get k = (res.offset.get k).map fun o => o % c) ∧
        ∃ n, t.transition.tentative = some n ∧ ∀ k x, n.copies.get k = some x → x.command = .run →
          x.adj = 0 ∧ x.seek = .aligned ∧ x.length = c ∧ x.skew = .untouched) ∧
      (∃ lacking : List Slot, lacking.Nodup ∧
        (∀ k, k ∈ lacking ↔ s.corridor.table.get k ≠ none ∧ ¬ HoldsValid s k p) ∧
        t.notices.corridor.planCommitted.data =
          some (.planCommitted s.directory.active p byDeadline lacking.length)) ∧
      ∃ excluded : List Slot, Ascending excluded ∧
        (∀ k, k ∈ excluded ↔ s.corridor.table.get k ≠ none ∧ ¬ HoldsValid s k p ∧
          ((s.corridor.state = .running ∧ InCommitSet s k) ∨
            (s.corridor.state = .starting ∧ (s.monitor.get k).state = .startingFree))) ∧
        (byDeadline = true → excluded ≠ [] →
          t.notices.corridor.planExclusion.data = some (.planExclusion excluded)) ∧
        (byDeadline = false ∨ excluded = [] →
          t.notices.corridor.planExclusion = s.notices.corridor.planExclusion)

/-- A cycle zero assembles the beacon of the cycle, whether no plan is pending, one stays pending, or one is committed:
the sequence number advances, the length is the C of the plan p that is in force from then on, and a beacon waits at
the head of the transmit queue with one entry for each defined junction, in ascending slot order, as the states and
records then stand. With no plan pending nothing else changes. A junction that is not commanded RUN is FREE on slot 0
for C, Off, its model none and a pending skew discarded. A RUN entry names a slot that holds p Valid; its seek state
and adjustment are those of R84 and R86 under the limits of R85, its model moves by the adjustment, its length is C
with adjustment and skew within the limits, and its expected offset is the model before. After the commit that ends
Starting every RUN entry is so Unmodelled, its length C but for a skew; at a commit in Running that changes C every one
is Aligned with no adjustment and no skew, its length the new C, also that of a junction with no model (log 14) (R11,
R13, R14, R80, R84 to R88, R94, R98, R165 to R167). THE MODEL'S CHOICE (log 27): cycle zero is taken at any master
time, once the events of the cycle are over. -/
def Obligations.CycleZeroAssemblesTheBeacon : Prop :=
  ∀ (s : State) (p : PlanNo) (c long short : Nat), CycleFinished s → RecordsLegal s →
    (s.directory.pending = none ∨ s.corridor.state = .starting ∨ s.corridor.state = .running) → ComesIntoForce s p →
    (s.plans.get p).cycle = some c → 0 < c → long = c * s.corridor.settings.lengthenLimit / 100 →
    short = c * s.corridor.settings.shortenLimit / 100 → s.corridor.settings.shortenLimit ≤ 100 →
    ∃ t n e, exec .cycleZero s = .next t ∧
      t.clock = { masterTime := 0, sequence := (s.clock.sequence + 1) % 256, length := c } ∧
      t.line = { s.line with
        beacon := .waiting s.corridor.settings.latenessLimit
        queue := .beacon
          { sequence := (s.clock.sequence + 1) % 256, cycle := c, plan := some p, entries := e
            stopping := s.corridor.state == .stopping } :: s.line.queue } ∧
      t.transition.tentative = some n ∧
      (s.directory.pending = none →
        t = { s with
          clock := t.clock, line := t.line, transition := { s.transition with tentative := some n } }) ∧
      n.sequence = (s.clock.sequence + 1) % 256 ∧
      e.map (fun x => some x.address) =
        ((Slot.all.filter fun k => (s.corridor.table.get k).isSome).map fun k =>
          (s.corridor.table.get k).map fun j => j.address) ∧
      e = (Slot.all.filterMap fun k => (s.corridor.table.get k).bind fun j => (n.copies.get k).map fun x =>
        { address := j.address, command := x.command, slot := x.slot, length := x.length }) ∧
      (s.corridor.state = .stopping → ∀ x ∈ e, x.command = .free ∧ x.slot = .d0 ∧ x.length = c) ∧
      (∀ k, s.corridor.table.get k = none → n.copies.get k = none) ∧
      ∀ k a, s.corridor.table.get k ≠ none → t.transition.records.get k = some a →
        (¬ RunCommanded t k → n.copies.get k = some
          { command := .free, slot := .d0, seek := .off, length := c, adj := 0, model := .none
            skew := (if a.pendingSkew = none then .untouched else .discarded), expected := a.model }) ∧
        (RunCommanded t k → t.directory.active = some p → HoldsValid t k p →
          ∃ x, n.copies.get k = some x ∧ x.command = .run ∧ (t.directory.dirs.get k).get x.slot = .valid p ∧
            x.expected = a.model ∧ Advanced c x.adj a.model x.model ∧
            (¬ (Commits s p ∧ s.corridor.state = .running ∧ c ≠ s.clock.length) →
              Steered c long short a.model a.target x.seek x.adj ∧
                Commanded c long short x.adj a.pendingSkew x.skew x.length) ∧
            (Commits s p → s.corridor.state = .running → c ≠ s.clock.length →
              x.seek = .aligned ∧ x.adj = 0 ∧ x.length = c ∧ x.skew = .untouched) ∧
            (Commits s p → s.corridor.state = .starting →
              x.seek = .unmodelled ∧ x.adj = 0 ∧ (a.pendingSkew = none → x.length = c)))

/-! ### The host's orders -/

/-- R77: HOLD DIRECTION, in every corridor state. Codes 0 to 2 hold a mode, 3 is Auto, and any other is refused. -/
def Obligations.HoldDirectionSetsTheMode : Prop :=
  ∀ (s : State) (r : Request) (b : Byte), s.AtHead 0x10 [b] r →
    (3 < b.toNat → exec .holdDirection s = .next { s with host := answered s.host r .badValue [0] }) ∧
    (b.toNat = 3 → exec .holdDirection s = .next { s with
      flow := { s.flow with hold := none, candidate := none, confirmation := 0 }
      host := answered s.host r .ok [3, u8 s.flow.mode.code] }) ∧
    (∀ m : Mode, b.toNat = m.code → exec .holdDirection s = .next { s with
      flow := { s.flow with hold := some m, mode := m, candidate := none, confirmation := 0 }
      notices := if s.flow.mode = m then s.notices
        else s.notices.signal s.stamp (.event (.directionChanged s.flow.mode m true s.flow.ratio))
      host := answered s.host r .ok [b, b] })

/-- R114: FREE JUNCTION's checks in their order; an accepted one makes the junction Released, its counts, window and
cause as they stand, and discards a pending skew that no tentative copy carries. -/
def Obligations.FreeJunctionReleases : Prop :=
  ∀ (s : State) (r : Request) (b : Byte), s.AtHead 0x11 [b] r →
    (s.corridor.state = .idle →
      exec .freeJunction s = .next { s with host := answered s.host r .wrongState [] }) ∧
    (s.corridor.state ≠ .idle → NoSlot b →
      exec .freeJunction s = .next { s with host := answered s.host r .badValue [0] }) ∧
    (∀ k, s.corridor.state ≠ .idle → IsSlot b k → s.corridor.table.get k = none →
      exec .freeJunction s = .next { s with host := answered s.host r .notDefined [] }) ∧
    (∀ k, s.corridor.state ≠ .idle → IsSlot b k → s.corridor.table.get k ≠ none →
      (s.monitor.get k).state = .startingFree →
      exec .freeJunction s = .next { s with host := answered s.host r .wrongState [] }) ∧
    (∀ k, s.corridor.state ≠ .idle → IsSlot b k → s.corridor.table.get k ≠ none →
      (s.monitor.get k).state ≠ .startingFree →
      ∃ t, exec .freeJunction s = .next t ∧
        t = { s with
          monitor := s.monitor.set k { s.monitor.get k with state := .released }
          transition := t.transition
          notices := if (s.monitor.get k).state = .released then s.notices
            else s.notices.signal s.stamp
              (.slotEvent k (.stepChange (s.monitor.get k).state .released .order))
          host := answered s.host r .ok [b, 7] } ∧
        (s.transition.tentative = none →
          t.transition = { s.transition with records := t.transition.records } ∧
          (∀ j, j ≠ k → t.transition.records.get j = s.transition.records.get j) ∧
          t.transition.records.get k =
            (s.transition.records.get k).map fun x => { x with pendingSkew := none }))

/-- R113: RESEEK JUNCTION's checks in their order; an accepted one makes the junction Absent with its counts cleared
and its model dropped when it holds the active plan Valid, else Excluded with cause plan. The model is stated for the
time when no tentative copy stands. THE MODEL'S CHOICE (log 13): of the alignment memory only a retained expected
offset is struck out, so that the return raises no REALIGNED (R103, R119). -/
def Obligations.ReseekJunctionReadmits : Prop :=
  ∀ (s : State) (r : Request) (b : Byte), s.AtHead 0x12 [b] r →
    (s.corridor.state ≠ .running →
      exec .reseekJunction s = .next { s with host := answered s.host r .wrongState [] }) ∧
    (s.corridor.state = .running → NoSlot b →
      exec .reseekJunction s = .next { s with host := answered s.host r .badValue [0] }) ∧
    (∀ k, s.corridor.state = .running → IsSlot b k → s.corridor.table.get k = none →
      exec .reseekJunction s = .next { s with host := answered s.host r .notDefined [] }) ∧
    (∀ k, s.corridor.state = .running → IsSlot b k → s.corridor.table.get k ≠ none →
      (s.monitor.get k).state ≠ .released → (s.monitor.get k).state ≠ .excluded →
      (s.monitor.get k).state ≠ .yielded → (s.monitor.get k).state ≠ .inStep →
      exec .reseekJunction s = .next { s with host := answered s.host r .wrongState [] }) ∧
    (∀ k p, s.corridor.state = .running → IsSlot b k → s.corridor.table.get k ≠ none →
      s.directory.active = some p →
      ((s.monitor.get k).state = .released ∨ (s.monitor.get k).state = .excluded ∨
        (s.monitor.get k).state = .yielded ∨ (s.monitor.get k).state = .inStep) →
      (HoldsValid s k p → s.transition.tentative = none →
        exec .reseekJunction s = .next { s with
          monitor := s.monitor.set k { s.monitor.get k with
            state := .absent, run := 0, misses := 0, failures := 0, cause := .none
            memory := (s.monitor.get k).memory.map fun m =>
              { m with expected := match m.expected with
                  | .retained _ => .none
                  | .valid o => .valid o
                  | .none => .none } }
          transition := { s.transition with
            records := s.transition.records.modify k (Option.map fun x => { x with model := .none }) }
          notices := s.notices.signal s.stamp
            (.slotEvent k (.stepChange (s.monitor.get k).state .absent .order))
          host := answered s.host r .ok [b, 2] }) ∧
      (¬ HoldsValid s k p →
        exec .reseekJunction s = .next { s with
          monitor := s.monitor.set k { s.monitor.get k with state := .excluded, cause := .plan }
          notices := if (s.monitor.get k).state = .excluded then s.notices
            else s.notices.signal s.stamp
              (.slotEvent k (.stepChange (s.monitor.get k).state .excluded .order))
          host := answered s.host r .ok [b, 8] }))

/-- R72: SEED QUEUE's checks in their order; an accepted one sets the estimate to the value limited to S, or to S
while the approach is in spillback, and no other field changes. -/
def Obligations.SeedQueueSetsTheEstimate : Prop :=
  ∀ (s : State) (r : Request) (b dir v : Byte), s.AtHead 0x13 [b, dir, v] r →
    (s.corridor.state = .idle ∨ s.corridor.state = .stopping →
      exec .seedQueue s = .next { s with host := answered s.host r .wrongState [] }) ∧
    (s.corridor.state = .starting ∨ s.corridor.state = .running →
      (NoSlot b → exec .seedQueue s = .next { s with host := answered s.host r .badValue [0] }) ∧
      (∀ k, IsSlot b k → 1 < dir.toNat →
        exec .seedQueue s = .next { s with host := answered s.host r .badValue [1] }) ∧
      (∀ k, IsSlot b k → dir.toNat ≤ 1 → s.corridor.table.get k = none →
        exec .seedQueue s = .next { s with host := answered s.host r .notDefined [] }) ∧
      ∀ k a, IsSlot b k → dir.toNat ≤ 1 → s.corridor.table.get k ≠ none → s.flow.approaches.get k = some a →
        ∃ q, q = (if dir.toNat = 0
            then (if a.inbound.spillback then (s.corridor.capacity.get k).inbound
              else min v.toNat (s.corridor.capacity.get k).inbound)
            else (if a.outbound.spillback then (s.corridor.capacity.get k).outbound
              else min v.toNat (s.corridor.capacity.get k).outbound)) ∧
          exec .seedQueue s = .next { s with
            flow := { s.flow with approaches := s.flow.approaches.set k (some
              (if dir.toNat = 0 then { a with inbound := { a.inbound with queue := q } }
                else { a with outbound := { a.outbound with queue := q } })) }
            host := answered s.host r .ok [b, dir, u8 q] })

/-- R115: INJECT SKEW's checks in their order; an accepted one stores the amount as the slot's pending skew, and the
step state does not change. -/
def Obligations.InjectSkewIsStored : Prop :=
  ∀ (s : State) (r : Request) (b hi lo : Byte) (a : Int), s.AtHead 0x14 [b, hi, lo] r → a = readI16 hi lo →
    (NoSlot b → exec .injectSkew s = .next { s with host := answered s.host r .badValue [0] }) ∧
    (∀ k, IsSlot b k → (a < -400 ∨ 400 < a ∨ a = 0) →
      exec .injectSkew s = .next { s with host := answered s.host r .badValue [1] }) ∧
    (∀ k, IsSlot b k → -400 ≤ a → a ≤ 400 → a ≠ 0 →
      (s.corridor.table.get k = none →
        exec .injectSkew s = .next { s with host := answered s.host r .notDefined [] }) ∧
      (s.corridor.table.get k ≠ none → (s.corridor.state ≠ .running ∨ (s.monitor.get k).state ≠ .inStep) →
        exec .injectSkew s = .next { s with host := answered s.host r .notInStep [] }) ∧
      (∀ x, s.corridor.table.get k ≠ none → s.corridor.state = .running → (s.monitor.get k).state = .inStep →
        s.transition.records.get k = some x →
        (x.pendingSkew ≠ none →
          exec .injectSkew s = .next { s with host := answered s.host r .injectPending [] }) ∧
        (x.pendingSkew = none →
          exec .injectSkew s = .next { s with
            transition := { s.transition with
              records := s.transition.records.set k (some { x with pendingSkew := some a }) }
            host := answered s.host r .ok [b, hi, lo] })))

/-! ### The loopback test -/

/-- LOOPBACK TEST in Idle with 1 to 16 repetitions and a payload of 1 to 64 bytes is accepted: the request holds the
head of the queue with no reply yet. Outside Idle it is refused, and an argument out of its range is named, the
repetitions as 0 and the payload length as 1 (R163, R180, R181). The test then runs: it begins with the transmitter off
the line and the receiver's frame and buffer discarded; each repetition sends a TEST frame addressed to 0 whose body is
its number and the payload; every looped character with a character error is counted, whatever it belongs to; an intact
looped copy of the frame sent last, received from its first character, matches and counts no character error; a whole
copy that differs in address, kind or body, or whose CRC does not agree, does not match, and nor does one with a
character error from its start character on; and when the last repetition has been sent and its time is over, the test
ends with its three figures as reply, the transmitter Free and the loopback record discarded (R149, R163, R164, R198).
THE MODEL'S READING: the test begins with carrier present or a frame in assembly as on a quiet line (log 42), and a
copy that comes before the next TEST frame begins is in time (log 9). -/
def Obligations.LoopbackTestHoldsTheQueueAndRuns : Prop :=
  (∀ (s : State) (r : Request) (n len : Byte) (payload : List Byte), s.AtHead 0x16 (n :: len :: payload) r →
    len.toNat = payload.length →
    (s.corridor.state ≠ .idle →
      exec .loopbackTest s = .next { s with host := answered s.host r .wrongState [] }) ∧
    (s.corridor.state = .idle → (n.toNat = 0 ∨ 16 < n.toNat) →
      exec .loopbackTest s = .next { s with host := answered s.host r .badValue [0] }) ∧
    (s.corridor.state = .idle → 1 ≤ n.toNat → n.toNat ≤ 16 → (payload.length = 0 ∨ 64 < payload.length) →
      exec .loopbackTest s = .next { s with host := answered s.host r .badValue [1] }) ∧
    (s.corridor.state = .idle → 1 ≤ n.toNat → n.toNat ≤ 16 → 1 ≤ payload.length → payload.length ≤ 64 →
      exec .loopbackTest s = .next { s with
        host := { s.host with serving := true }
        line := { s.line with
          loopback := some
            { repetitions := n.toNat, payload := payload, sent := 0, matched := 0, thisMatched := false
              errors := 0 } } })) ∧
  ∀ (s : State) (l : Loopback), s.line.loopback = some l →
    (s.line.transmitter = .free →
      exec .loopbackBegin s = .next { s with line := { s.line with
        transmitter := .test, assembly := none, unchecked := [], carrier := false, quietFor := none } }) ∧
    (s.line.transmitter = .test → l.sent < l.repetitions →
      exec .testFrameBegin s = .next { s with line := { s.line with
        txChars := lineFrame 0 0x0F (u8 (l.sent + 1) :: l.payload)
        assembly := none
        loopback := some { l with sent := l.sent + 1, thisMatched := false } } }) ∧
    (s.line.transmitter = .test → s.line.assembly = none → 1 ≤ l.sent → l.payload.length ≤ 64 →
      l.thisMatched = false →
      exec (.loopbackFrameReceived (lineFrame 0 0x0F (u8 l.sent :: l.payload))) s =
        .next { s with line := { s.line with
          loopback := some { l with matched := l.matched + 1, thisMatched := true } } }) ∧
    (∀ chars : List LineChar, s.line.transmitter = .test → 1 ≤ l.sent →
      ∃ t m, exec (.loopbackFrameReceived chars) s = .next t ∧
        t = { s with line := { s.line with assembly := t.line.assembly, loopback := some m } } ∧
        m.repetitions = l.repetitions ∧ m.payload = l.payload ∧ m.sent = l.sent ∧
        m.errors = l.errors + chars.countP fun c => !goodChar c) ∧
    (∀ (address kind c1 c0 : Byte) (body : List Byte), s.line.transmitter = .test → s.line.assembly = none →
      1 ≤ l.sent → body.length ≤ 83 →
      (address ≠ 0 ∨ kind ≠ 0x0F ∨ body ≠ u8 l.sent :: l.payload ∨
        [c1, c0] ≠ crcBytes (address :: kind :: u8 body.length :: body)) →
      exec (.loopbackFrameReceived (frameWith address kind body c1 c0)) s = .next s) ∧
    (∀ chars frame : List LineChar, s.line.transmitter = .test → s.line.assembly = none → 1 ≤ l.sent →
      l.payload.length ≤ 64 → frame = lineFrame 0 0x0F (u8 l.sent :: l.payload) → chars.length = frame.length →
      (∀ c ∈ chars.zip frame, c.1 = c.2 ∨ goodChar c.1 = false) → (∃ c ∈ chars.drop 3, goodChar c = false) →
      ∃ t m, exec (.loopbackFrameReceived chars) s = .next t ∧ t.line.loopback = some m ∧ m.matched = l.matched ∧
        m.thisMatched = l.thisMatched) ∧
    ∀ r rest, s.line.transmitter = .test → s.host.queue = r :: rest → l.sent = l.repetitions →
      exec .loopbackComplete s = .next { s with
        line := { s.line with transmitter := .free, txChars := [], assembly := none, loopback := none }
        host := answered s.host r .ok
          [u8 l.repetitions, u8 l.matched, u8 (min 65535 l.errors / 256), u8 (min 65535 l.errors)] }

/-! ### The corridor line and the master cycle -/

/-- The beacon begins at master time t with the line quiet and t within the lateness limit: it leaves the queue, is
sent with lateness t written in, and every defined slot's alignment memory is replaced from its tentative copy. With no
message held, the tentative copies become the standing records. TRANSITION_BLOCKED is then current while some record is
Blocked, and rises with the slots that are (R16, R89, R93, R99, R154). THE MODEL'S CHOICES: the line is taken as quiet
when the command comes (log 26), master time is then the lateness it carries (log 27), and the slots stand in ascending
order (log 47). -/
def Obligations.BeaconBeginMakesRecordsStanding : Prop :=
  ∀ (s : State) (limit late : Nat) (b : Beacon) (rest : List TxFrame) (n : Tentative),
    s.line.beacon = .waiting limit → s.line.queue = .beacon b :: rest → s.line.Ready →
    s.clock.masterTime ≤ late → late ≤ limit → s.transition.tentative = some n →
    ∃ t, exec (.beaconBegin late) s = .next t ∧
      t = { s with
        clock := { s.clock with masterTime := late }
        line := { s.line with
          transmitter := .sending, txChars := lineFrame 0 0x01 (b.body late), quietFor := none, queue := rest
          beacon := .sending b }
        monitor := t.monitor
        transition := { s.transition with records := t.transition.records, tentative := none, held := [] }
        notices := t.notices } ∧
      (∀ k c, s.corridor.table.get k ≠ none → n.copies.get k = some c →
        t.monitor.get k = { s.monitor.get k with
          memory := some
            { sequence := b.sequence, cycle := b.cycle, lateness := late, command := c.command, slot := c.slot
              expected := c.expected } }) ∧
      (s.transition.held = [] → ∀ k c x, n.copies.get k = some c → s.transition.records.get k = some x →
        t.transition.records.get k = some { x with
          model := c.model, seek := c.seek, lastLength := some c.length, lastAdj := c.adj
          pendingSkew := (if c.skew = .untouched then x.pendingSkew else none)
          lastSkew := (match c.skew with | .applied a => a | .untouched => x.lastSkew | .discarded => x.lastSkew) }) ∧
      t.notices.slots = s.notices.slots ∧
      ∃ blocked : List Slot, Ascending blocked ∧
        (∀ k, k ∈ blocked ↔ ∃ x, t.transition.records.get k = some x ∧ x.seek = .blocked) ∧
        t.notices.corridor = { s.notices.corridor with
          transitionBlocked :=
            if blocked = [] then { s.notices.corridor.transitionBlocked with current := false }
            else if s.notices.corridor.transitionBlocked.current then s.notices.corridor.transitionBlocked
            else { latched := true, current := true, data := some (.transitionBlocked blocked) }
          noticeOverflow := t.notices.corridor.noticeOverflow }

/-- A beacon still Waiting past its lateness limit is withdrawn: it leaves the queue, BEACON_SKIPPED rises, the
tentative copies are discarded, and, with no message held, the standing records stay. The holding cause is a reply
awaited when only that holds the line, and foreign carrier when none is awaited (R90, R155). THE MODEL'S
CHOICES: a reply counts as awaited while its POLL or IMAGE LOAD is still being sent (log 7), and master time is then
the limit plus one (log 27). -/
def Obligations.BeaconWithdrawnKeepsTheModels : Prop :=
  ∀ (s : State) (limit : Nat), s.line.beacon = .waiting limit → s.clock.masterTime ≤ limit + 1 →
    ∃ t, exec .beaconWithdrawn s = .next t ∧
      t = { s with
        clock := { s.clock with masterTime := limit + 1 }
        line := { s.line with beacon := .withdrawn, queue := t.line.queue }
        transition := { s.transition with records := t.transition.records, tentative := none, held := [] }
        notices := t.notices, free := t.free } ∧
      (∀ b, TxFrame.beacon b ∉ t.line.queue) ∧
      (∀ f, TxFrame.load f ∈ t.line.queue ↔ TxFrame.load f ∈ s.line.queue) ∧
      (s.transition.held = [] → t.transition.records = s.transition.records) ∧
      t.notices.corridor.beaconSkipped.latched = true ∧
      (s.line.exchange = none →
        t.notices.corridor.beaconSkipped.data = some (.beaconSkipped s.clock.sequence false)) ∧
      (s.line.exchange ≠ none → s.line.carrier = false → s.line.assembly = none →
        t.notices.corridor.beaconSkipped.data = some (.beaconSkipped s.clock.sequence true))

/-- When a beacon has been sent, a sweep of every defined slot begins; after the stopping beacon the corridor is Idle
instead, as the table of R12 says, and TRANSITION_BLOCKED is not current (R12, R93, R156, R157). -/
def Obligations.BeaconSentSweepsOrStops : Prop :=
  ∀ (s : State) (b : Beacon), s.line.beacon = .sending b →
    (b.stopping = false → exec .beaconSent s = .next { s with
      line := { s.line with
        beacon := .sent, transmitter := .free, txChars := []
        sweep := some
          { sequence := b.sequence, current := none
            waiting := Slot.all.filter fun k => (s.corridor.table.get k).isSome } } }) ∧
    (b.stopping = true → ∃ t, exec .beaconSent s = .next t ∧
      t.corridor = { s.corridor with
        state := .idle, capacity := PerSlot.fill ⟨0, 0⟩, startingPlan := none } ∧
      t.clock.masterTime = 0 ∧ t.clock.sequence = s.clock.sequence ∧
      t.directory = { s.directory with active := none, pending := none, deadline := 0 } ∧
      (∀ k, t.transition.records.get k = none) ∧ t.transition.tentative = none ∧ t.engine.results = none ∧
      t.engine.inFlight = none ∧ t.flow.mode = s.flow.mode ∧ t.flow.hold = s.flow.hold ∧
      (∀ k, t.flow.approaches.get k = none) ∧
      (∀ k, t.monitor.get k = if (s.corridor.table.get k).isSome then .initial else .vacant) ∧
      t.plans = s.plans ∧ t.host = s.host ∧
      t.line = { s.line with
        beacon := .none, transmitter := .free, txChars := [], sweep := none, period := false } ∧
      t.notices.masks = s.notices.masks ∧ t.notices.corridor.transitionBlocked.current = false ∧
      t.notices.corridor.corridorState.data = some (.corridorState .stopping .idle))

/-- Exchanges begin, on a line taken as quiet (log 26, the model's choice: the quiet interval of R148 has passed when
the command comes). POLL_BEGIN sends a POLL to the slot's field address with the sweep's sequence number, the retry of
the current slot or attempt 1 of the first slot not yet polled. DOWNLOAD_FRAME_BEGIN, in the download period, sends the
download frame at the head of the queue as an IMAGE LOAD, and its order goes On line; no order is taken as Waiting, so
that no further frame is queued. When the last character ends, the reply window opens for the reply timeout setting,
and the transmitter awaits the reply; with the exchange ended at the sweep deadline no window opens (R130, R148, R151,
R153, R157 to R159, R200). -/
def Obligations.ExchangesBegin : Prop :=
  ∀ s : State,
    (∀ w k a j, s.line.sweep = some w → s.line.Ready → s.corridor.table.get k = some j → w.current = some (k, a) →
      exec .pollBegin s = .next { s with line := { s.line with
        transmitter := .sending, txChars := lineFrame j.address 0x02 [u8 w.sequence], quietFor := none
        exchange := some { kind := .poll, slot := k, address := j.address, attempt := a, window := none } } }) ∧
    (∀ w k j rest, s.line.sweep = some w → s.line.Ready → s.corridor.table.get k = some j → w.current = none →
      w.waiting = k :: rest →
      exec .pollBegin s = .next { s with line := { s.line with
        transmitter := .sending, txChars := lineFrame j.address 0x02 [u8 w.sequence], quietFor := none
        sweep := some { w with current := some (k, 1), waiting := rest }
        exchange := some { kind := .poll, slot := k, address := j.address, attempt := 1, window := none } } }) ∧
    (∀ f rest j, s.line.period = true → s.line.queue = .load f :: rest → s.line.Ready →
      s.corridor.table.get f.slot = some j → (∀ o ∈ s.directory.orders, o.stage ≠ .waiting) →
      ∃ a, exec .downloadFrameBegin s = .next { s with
        line := { s.line with
          transmitter := .sending, txChars := lineFrame j.address 0x03 f.body, quietFor := none, queue := rest
          exchange := some
            { kind := .download, slot := f.slot, address := j.address, attempt := a, window := none } }
        directory := { s.directory with orders := s.directory.orders.map fun o =>
          if o.slot = f.slot ∧ o.plan = f.plan then { o with stage := .onLine } else o } }) ∧
    (s.line.transmitter = .sending → (∀ b, s.line.beacon ≠ .sending b) →
      (∀ e, s.line.exchange = some e → exec .exchangeFrameSent s = .next { s with line := { s.line with
        transmitter := .awaiting, txChars := []
        exchange := some { e with window := some s.corridor.settings.replyTimeout } } }) ∧
      (s.line.exchange = none → exec .exchangeFrameSent s = .next { s with line := { s.line with
        transmitter := .free, txChars := [] } }))

/-- The reply window of a poll closes. With a frame in assembly that began within it, the exchange stays and that frame
is received to its end. With none, attempt 1 is polled again as attempt 2, and nothing reaches the Step Monitor; after
attempt 2 a miss does, and the slot leaves the sweep. A third miss in a row makes a Seeking, Confirming or InStep
junction Absent and, with no tentative copy standing, suspends its model (R81, R109, R110, R151, R158). -/
def Obligations.TimeoutRetriesThenMisses : Prop :=
  ∀ (s : State) (e : Exchange) (w : Sweep), s.line.exchange = some e → e.kind = .poll → e.window ≠ none →
    s.line.sweep = some w →
    (∀ f tag, s.line.assembly = some f → f.tag = some tag → tag.live = true →
      exec .replyTimeout s = .next { s with line := { s.line with exchange := some { e with window := none } } }) ∧
    (s.line.assembly = none → s.line.unchecked = [] → w.waiting ≠ [] →
      ∃ t, exec .replyTimeout s = .next t ∧ PollFails s t e w ∧ t.line.unchecked = [] ∧
        t.line.carrier = s.line.carrier ∧ t.line.quietFor = s.line.quietFor ∧ t.line.quality = s.line.quality ∧
        (e.attempt = 1 → t.notices = s.notices))

/-- A damaged frame that began outside every window is discarded, and nothing is counted. In the open window of a poll,
with a further slot still to be polled, a frame cut off by the quiet line, one with a bad character or a length above
83, and one whose CRC does not agree is a bad frame: it counts against the slot's line quality, and the poll fails,
polled again after attempt 1 and missed after attempt 2. A character that finds the buffer holding 96 is an overrun:
the poll fails the same, and nothing is counted (R145, R146, R149, R150, R151, R158, R161). THE MODEL'S CHOICE (log
41): a character that is bad and finds the buffer full is an overrun. -/
def Obligations.DamagedFramesAreBad : Prop :=
  (∀ (s : State) (f : RxFrame), s.line.assembly = some f → f.tag = none →
    (s.line.carrier = false → exec .frameTruncated s = .next { s with line := { s.line with
      assembly := none, quietFor := some 0 } }) ∧
    ∀ c carrier, s.line.hears = true → goodChar c = false → s.line.unchecked = [] → f.chars.length < 95 →
      exec (.corridorFrameReceived [c] carrier true) s = .next { s with line := { s.line with
        assembly := none, carrier := carrier, quietFor := none } }) ∧
  ∀ (s : State) (e : Exchange) (w : Sweep), s.line.transmitter = .awaiting → s.line.exchange = some e →
    e.kind = .poll → s.line.sweep = some w → w.waiting ≠ [] →
    (∀ f, InWindow s e f → s.line.unchecked = [] →
      (s.line.carrier = false → ∃ t, exec .frameTruncated s = .next t ∧ PollFails s t e w ∧ CountsAsBad s t e ∧
        t.line.unchecked = [] ∧ t.line.carrier = false ∧ t.line.quietFor = some 0) ∧
      ∀ c carrier, f.chars.length < 95 →
        (goodChar c = false ∨ (f.chars.length = 2 ∧ 83 < c.data.toNat)) →
        ∃ t, exec (.corridorFrameReceived [c] carrier true) s = .next t ∧ PollFails s t e w ∧ CountsAsBad s t e ∧
          t.line.unchecked = [] ∧ t.line.carrier = carrier ∧ t.line.quietFor = none) ∧
    (∀ f c carrier, InWindow s e f →
      96 ≤ (s.line.unchecked.map fun u => u.chars.length + 1).sum + (f.chars.length + 1) →
      ∃ t, exec (.corridorFrameReceived [c] carrier false) s = .next t ∧ PollFails s t e w ∧
        t.line.quality = s.line.quality ∧
        t.line.unchecked.map (fun u => u.chars) = s.line.unchecked.map (fun u => u.chars) ∧
        t.line.carrier = carrier ∧ t.line.quietFor = none) ∧
    ∀ (address kind c1 c0 : Byte) (body : List Byte) (carrier : Bool), Listening s e → body.length ≤ 83 →
      [c1, c0] ≠ crcBytes (address :: kind :: u8 body.length :: body) →
      ∃ t, exec (.corridorFrameReceived (frameWith address kind body c1 c0) carrier true) s = .next t ∧
        PollFails s t e w ∧ CountsAsBad s t e ∧ t.line.unchecked = [] ∧ t.line.carrier = carrier ∧
        t.line.quietFor = none

/-- A good frame that arrives whole in the open window of a poll, with a further slot still to be polled. One from
another address or of another kind is ignored. A malformed report, of a body length other than 13 or with a running
slot above 3 or an unknown local mode, fails the poll as a bad frame does, but counts against no line quality. A stale
one, which echoes another sequence number, is a miss at once, on attempt 1 too. Neither reaches the Flow Estimator
(R151, R158, R175). -/
def Obligations.ReportsAreCheckedBeforeTheyAct : Prop :=
  ∀ (s : State) (e : Exchange) (w : Sweep) (carrier : Bool), AwaitsReport s e w →
    (∀ (address kind : Nat) (body : List Byte), address < 256 → kind < 256 → body.length ≤ 83 →
      (address ≠ e.address ∨ kind ≠ 0x82) →
      exec (.corridorFrameReceived (lineFrame address kind body) carrier true) s = .next { s with
        line := { s.line with carrier := carrier, quietFor := none } }) ∧
    (∀ body : List Byte, body.length ≤ 83 →
      (∀ (r : ReportBytes) mode echo, r.Formed mode → body ≠ r.body echo) →
      ∃ t, exec (.corridorFrameReceived (lineFrame e.address 0x82 body) carrier true) s = .next t ∧
        PollFails s t e w ∧ t.line.quality = s.line.quality ∧ t.line.unchecked = [] ∧ t.line.carrier = carrier ∧
        t.line.quietFor = none) ∧
    ∀ (r : ReportBytes) mode sequence, r.Formed mode → sequence < 256 → sequence ≠ w.sequence →
      ∃ t, exec (r.arrives e sequence carrier) s = .next t ∧ PollOver s t ∧
        t.line.sweep = some { w with current := none } ∧ Missed s t e.slot ∧ t.line.quality = s.line.quality ∧
        t.line.unchecked = [] ∧ t.line.carrier = carrier ∧ t.line.quietFor = none

/-- A current CYCLE REPORT that arrives whole in the open window of its poll is answered: the miss count is 0, the
local mode, the sweep outcome and the measured offset (λ + U) mod C are kept, the slot leaves the sweep, both approach
records take the five steps of R63 to R68, SPILLBACK and DETECTOR_FAULT of the slot take their current values, and the
arrivals of a sound detector join the volumes. No other slot's step record, transition record or latches change, and no
corridor latch but NOTICE_OVERFLOW. A further slot is still to be polled (R62 to R70, R73, R100, R101, R151,
R158, R175, R176). -/
def Obligations.CurrentReportIsDelivered : Prop :=
  ∀ (s : State) (e : Exchange) (w : Sweep) (m : Memory) (b : Both Approach) (r : ReportBytes) (mode : LocalMode)
    (carrier : Bool), AwaitsReport s e w → Remembers s e m → s.flow.approaches.get e.slot = some b → r.Formed mode →
    ∃ t b', exec (r.arrives e w.sequence carrier) s = .next t ∧
      t = { s with
        line := { s.line with
          exchange := none, transmitter := .free, txChars := [], carrier := carrier, quietFor := none
          sweep := some { w with current := none } }
        flow := { s.flow with
          approaches := s.flow.approaches.set e.slot (some b')
          volumeIn := s.flow.volumeIn + (if r.inbound.advanceFault then 0 else r.ai.toNat)
          volumeOut := s.flow.volumeOut + (if r.outbound.advanceFault then 0 else r.ao.toNat) }
        monitor := t.monitor, transition := t.transition, notices := t.notices, free := t.free } ∧
      (t.monitor.get e.slot).sweep = .answered ∧ (t.monitor.get e.slot).localMode = some mode ∧
      (t.monitor.get e.slot).misses = 0 ∧
      (t.monitor.get e.slot).measured = some ((m.lateness + r.u) % m.cycle) ∧
      OnlySlot s t e.slot ∧
      Estimated b.inbound b'.inbound (s.corridor.capacity.get e.slot).inbound s.corridor.settings.spillOccupancy
        r.inbound ∧
      Estimated b.outbound b'.outbound (s.corridor.capacity.get e.slot).outbound
        s.corridor.settings.spillOccupancy r.outbound ∧
      ((t.notices.slots.get e.slot).spillback.current = true ↔
        b'.inbound.spillback = true ∨ b'.outbound.spillback = true) ∧
      ((t.notices.slots.get e.slot).detectorFault.current = true ↔
        r.inbound.advanceFault = true ∨ r.inbound.stopFault = true ∨ r.outbound.advanceFault = true ∨
          r.outbound.stopFault = true) ∧
      ((s.notices.slots.get e.slot).spillback.current = false →
        (t.notices.slots.get e.slot).spillback.current = true →
        (t.notices.slots.get e.slot).spillback.latched = true ∧
          (t.notices.slots.get e.slot).spillback.data =
            some (.spillback b'.inbound.spillback b'.outbound.spillback)) ∧
      ((s.notices.slots.get e.slot).detectorFault.current = false →
        (t.notices.slots.get e.slot).detectorFault.current = true →
        (t.notices.slots.get e.slot).detectorFault.latched = true ∧
          (t.notices.slots.get e.slot).detectorFault.data =
            some (.detectorFault r.inbound.advanceFault r.inbound.stopFault r.outbound.advanceFault
              r.outbound.stopFault))

/-- What a report does that is not judged by its offset. The local override takes an Absent, Seeking, Confirming or
InStep junction to Yielded with no resync; that its error is not recorded is the model's reading (log 37). An Absent
junction that reports Coordinated is Seeking and resynced; a retained expected offset is compared with M, its error
recorded, and REALIGNED rises above the tolerance; that no other report records an error in Absent, not even one that
its memory would judge, is the model's reading (log 45). A Yielded one that reports Coordinated is Absent. An unjudged
report of a Seeking, Confirming or InStep junction resyncs it alone. In every other case nothing happens beyond the
common steps. No other slot's records or latches change (R91, R100 to R106, R108). -/
def Obligations.UnjudgedReportsAct : Prop :=
  ∀ (s : State) (e : Exchange) (w : Sweep) (m : Memory) (r : ReportBytes) (mode : LocalMode) (carrier : Bool)
    (measured : Nat) (old taken : StepRecord), AwaitsReport s e w → Remembers s e m → r.Formed mode →
    old = s.monitor.get e.slot → measured = measuredOf m r.u → taken = reported old mode measured →
    ∃ t, exec (r.arrives e w.sequence carrier) s = .next t ∧ OnlySlot s t e.slot ∧
      (Overrides s mode →
        (old.state = .absent ∨ old.state = .seeking ∨ old.state = .confirming ∨ old.state = .inStep) →
        t.monitor.get e.slot = { taken with state := .yielded, run := 0 } ∧ t.transition = s.transition ∧
          (t.notices.slots.get e.slot).stepChange.data = some (.stepChange old.state .yielded .localMode)) ∧
      (old.state = .absent → mode = .coordinated →
        Resynced s t e.slot measured ∧
        (t.notices.slots.get e.slot).stepChange.data = some (.stepChange .absent .seeking .report) ∧
        (∀ o err, m.expected = .retained o → IsError m.cycle ((measured : Int) - o) err →
          t.monitor.get e.slot = { taken with state := .seeking, run := 0, error := some err } ∧
          (s.corridor.settings.tolerance < err.natAbs →
            (t.notices.slots.get e.slot).realigned.data = some (.realigned o measured err)) ∧
          (err.natAbs ≤ s.corridor.settings.tolerance →
            (t.notices.slots.get e.slot).realigned = (s.notices.slots.get e.slot).realigned)) ∧
        ((∀ o, m.expected ≠ .retained o) →
          t.monitor.get e.slot = { taken with state := .seeking, run := 0 } ∧
            (t.notices.slots.get e.slot).realigned = (s.notices.slots.get e.slot).realigned)) ∧
      (¬ Overrides s mode → (m.command ≠ .run ∨ ∀ o, m.expected ≠ .valid o) →
        (old.state = .seeking ∨ old.state = .confirming ∨ old.state = .inStep) →
        t.monitor.get e.slot = taken ∧ Resynced s t e.slot measured) ∧
      (old.state = .yielded →
        t.monitor.get e.slot = (if mode = .coordinated then { taken with state := .absent } else taken) ∧
          t.transition = s.transition) ∧
      ((old.state = .released ∨ old.state = .excluded ∨ old.state = .startingFree ∨
          (old.state = .absent ∧ mode ≠ .coordinated ∧ ¬ Overrides s mode)) →
        t.monitor.get e.slot = taken ∧ t.transition = s.transition)

/-- What a judged report does, its error e recorded: a match confirms a Seeking junction, counts toward InStep in
Confirming, and joins the window in InStep; a mismatch in Seeking or Confirming is a follow failure, which excludes at
the follow limit; in InStep it is a slip, which relocks at the second slip of the window while relock is on. Each of
them resyncs the junction, but for a slip that does not relock. No other slot's records or latches change (R91, R101,
R102, R104 to R107). -/
def Obligations.JudgedReportsMoveTheJunction : Prop :=
  ∀ (s : State) (e : Exchange) (w : Sweep) (m : Memory) (r : ReportBytes) (mode : LocalMode) (carrier : Bool)
    (o measured : Nat) (err : Int) (old taken : StepRecord), AwaitsReport s e w → Remembers s e m → r.Formed mode →
    m.command = .run → m.expected = .valid o → ¬ Overrides s mode → old = s.monitor.get e.slot →
    measured = measuredOf m r.u → IsError m.cycle ((measured : Int) - o) err →
    taken = { reported old mode measured with error := some err } →
    ∃ t, exec (r.arrives e w.sequence carrier) s = .next t ∧ OnlySlot s t e.slot ∧
      (old.state = .seeking → Matches s m r mode err →
        t.monitor.get e.slot = { taken with state := .confirming, run := 1 } ∧ Resynced s t e.slot measured) ∧
      (old.state = .confirming → Matches s m r mode err →
        t.monitor.get e.slot =
            (if s.corridor.settings.confirmCount ≤ old.run + 1 then
              { taken with state := .inStep, run := old.run + 1, window := [], failures := 0 }
            else { taken with run := old.run + 1 }) ∧
          Resynced s t e.slot measured) ∧
      ((old.state = .seeking ∨ old.state = .confirming) → ¬ Matches s m r mode err →
        t.monitor.get e.slot =
            (if s.corridor.settings.followLimit ≤ old.failures + 1 then
              { taken with state := .excluded, run := 0, failures := old.failures + 1, cause := .follow }
            else { taken with state := .seeking, run := 0, failures := old.failures + 1 }) ∧
          Resynced s t e.slot measured) ∧
      (old.state = .inStep → Matches s m r mode err →
        t.monitor.get e.slot =
            { taken with window := joined s.corridor.settings.slipWindow old.window .matched } ∧
          Resynced s t e.slot measured) ∧
      (old.state = .inStep → ¬ Matches s m r mode err →
        ∃ window, window = joined s.corridor.settings.slipWindow old.window .slip ∧
          (t.notices.slots.get e.slot).slip.data =
            some (.slip err (mismatchKind s m r err) (window.count .slip)) ∧
          (2 ≤ window.count .slip → s.corridor.settings.relock = true →
            t.monitor.get e.slot = { taken with state := .seeking, run := 0, window := window } ∧
              (t.notices.slots.get e.slot).stepChange.data = some (.stepChange .inStep .seeking .relock) ∧
              Resynced s t e.slot measured) ∧
          (¬ (2 ≤ window.count .slip ∧ s.corridor.settings.relock = true) →
            t.monitor.get e.slot = { taken with window := window } ∧ t.transition = s.transition))

/-- At the sweep deadline every slot not resolved, which stands once in the sweep (R157), is missed, with all that a
miss does to it: the miss count, the window, and at the third in a row Absent with STEP_CHANGE and the model retained;
every other slot keeps its step record, its transition record and its latches. SWEEP_OVERRUN rises with the first slot
missed and their number, the exchange ends with no outcome, and sweep complete opens the download period (R15, R81,
R109, R110, R159). THE MODEL'S CHOICE (log 27): master time, wherever it stood before C - 100, is then C - 100. -/
def Obligations.SweepDeadlineMissesTheRest : Prop :=
  ∀ (s : State) (w : Sweep) (k : Slot) (rest : List Slot), s.line.sweep = some w →
    s.clock.masterTime ≤ s.clock.length - 100 → (w.current.map Prod.fst).toList ++ w.waiting = k :: rest →
    ∃ t, exec .sweepDeadline s = .next t ∧ t.corridor = s.corridor ∧ t.plans = s.plans ∧ t.host = s.host ∧
      t.clock = { s.clock with masterTime := s.clock.length - 100 } ∧ t.line.sweep = none ∧
      t.line.exchange = none ∧ t.line.period = true ∧ t.line.beacon = s.line.beacon ∧
      t.line.quality = s.line.quality ∧
      (∀ j, j ∈ k :: rest → (t.monitor.get j).sweep = .missed) ∧
      (∀ j, (k :: rest).count j = 1 → MissedAt s t j) ∧ (∀ j, j ∉ k :: rest → KeptAt s t j) ∧
      t.flow.volumeIn = 0 ∧ t.flow.volumeOut = 0 ∧
      t.notices.corridor.sweepOverrun.latched = true ∧
      t.notices.corridor.sweepOverrun.data = some (.sweepOverrun w.sequence k (rest.length + 1))

/-- Sweep complete comes at the sweep deadline, or with the last poll resolved: by a miss, or by a report, whose
arrivals then join the volumes first. The directional ratio is that of the volumes, which become 0. A hold keeps the
mode. Without one the candidate of R75 is confirmed as R76 says: at its third sweep complete in a row the mode changes,
and DIRECTION_CHANGED rises with both modes and the ratio. In Starting and Running, the plan in force being complete
and its four defaulted fields set, a computation begins with the snapshot of R37; in Stopping none does. The download
period opens, and orders are created for every needed plan (R36 to R38, R62 to R68, R73 to R76, R78, R129, R158, R159).
THE MODEL'S CHOICE (log 27): the deadline is taken at any master time up to C - 100. -/
def Obligations.SweepCompleteConfirmsTheDirection : Prop :=
  (∀ (s : State) (w : Sweep), s.line.sweep = some w → s.clock.masterTime ≤ s.clock.length - 100 →
    ∃ t, exec .sweepDeadline s = .next t ∧ SweepClosed s t s.flow) ∧
  (∀ (s : State) (e : Exchange) (w : Sweep), s.line.exchange = some e → e.kind = .poll → e.window ≠ none →
    e.attempt = 2 → s.line.sweep = some w → w.waiting = [] → s.line.assembly = none → s.line.unchecked = [] →
    ∃ t, exec .replyTimeout s = .next t ∧ SweepClosed s t s.flow ∧ Missed s t e.slot) ∧
  ∀ (s : State) (e : Exchange) (w : Sweep) (b : Both Approach) (r : ReportBytes) (mode : LocalMode) (carrier : Bool),
    Polling s e w → w.waiting = [] → s.flow.approaches.get e.slot = some b → r.Formed mode →
    ∃ t b', exec (r.arrives e w.sequence carrier) s = .next t ∧ (t.monitor.get e.slot).sweep = .answered ∧
      Estimated b.inbound b'.inbound (s.corridor.capacity.get e.slot).inbound s.corridor.settings.spillOccupancy
        r.inbound ∧
      Estimated b.outbound b'.outbound (s.corridor.capacity.get e.slot).outbound
        s.corridor.settings.spillOccupancy r.outbound ∧
      SweepClosed s t { s.flow with
        approaches := s.flow.approaches.set e.slot (some b')
        volumeIn := s.flow.volumeIn + (if r.inbound.advanceFault then 0 else r.ai.toNat)
        volumeOut := s.flow.volumeOut + (if r.outbound.advanceFault then 0 else r.ao.toNat) }

/-- When a computation completes, the results record holds the sequence number, mode and ratio of its snapshot, an
offset in 0..C-1 for every slot of it, and O_ref mod C for the reference junction. CYCLE_SUMMARY carries the record's
sequence number, mode, ratio, bands and counted count: a notice of it joins the queue while the kind is unmasked, is
dropped with NOTICE_OVERFLOW when the queue holds 32, and else nothing changes at the Notice Unit. A slot takes its
computed offset as target when it has none, at the first completion after a commit, and when the two lie at least the
retarget threshold apart on the cycle; else its target stays; adopt-all is cleared (R46, R47, R53, R82, R83, R190 to
R192). -/
def Obligations.ComputationGivesOffsetsBelowC : Prop :=
  ∀ (s : State) (n : Snapshot), s.engine.inFlight = some n → 0 < n.cycle →
    ∃ t res, exec .computationComplete s = .next t ∧
      t = { s with
        engine := { results := some res, inFlight := none }
        transition := { s.transition with adoptAll := false, records := t.transition.records }
        notices := t.notices } ∧
      res.sequence = n.sequence ∧ res.mode = n.mode ∧ res.ratio = n.ratio ∧
      t.notices =
        (if s.notices.masks.cycleSummary = false then s.notices
        else if s.notices.queue.length < 32 then
          { s.notices with queue := s.notices.queue ++
              [{ data := .cycleSummary n.sequence n.mode n.ratio res.designed res.current res.counted, slot := none
                 stamp := s.stamp, again := false }] }
        else
          { s.notices with corridor := { s.notices.corridor with noticeOverflow :=
              { latched := true, count := min 255 (s.notices.corridor.noticeOverflow.count + 1), data := none } } }) ∧
      (∀ k, (n.slots.get k = none → res.offset.get k = none) ∧
        (n.slots.get k ≠ none → ∃ o, res.offset.get k = some o ∧ o < n.cycle)) ∧
      (n.slots.get n.ref ≠ none → res.offset.get n.ref = some (n.oRef % n.cycle)) ∧
      (∀ k x, s.transition.records.get k = some x → res.offset.get k = none →
        t.transition.records.get k = some x) ∧
      ∀ k x o, s.transition.records.get k = some x → res.offset.get k = some o →
        (x.target = none → t.transition.records.get k = some { x with target := some o }) ∧
        ∀ old, x.target = some old → old < n.cycle →
          (s.transition.adoptAll = true →
            t.transition.records.get k = some { x with target := some o }) ∧
          ∀ ahead behind : Nat, ahead < n.cycle → behind < n.cycle →
            (∃ z : Int, (o : Int) - old = ahead + z * n.cycle) →
            (∃ z : Int, (old : Int) - o = behind + z * n.cycle) →
            (s.corridor.settings.retarget ≤ min ahead behind →
              t.transition.records.get k = some { x with target := some o }) ∧
            (s.transition.adoptAll = false → min ahead behind < s.corridor.settings.retarget →
              t.transition.records.get k = some x)

/-- The offset chain: across every link of the snapshot the computed offsets differ, mod C, by the link's difference Δ,
which blends the ideal inbound and outbound differences by the weight of the direction mode; with O_ref at the
reference junction this fixes every offset (R39 to R47). -/
def Obligations.ChainFollowsTheLinks : Prop :=
  ∀ (s : State) (n : Snapshot), s.engine.inFlight = some n → 0 < n.cycle → 0 < n.sIn → 0 < n.sOut →
    n.slots.get n.ref ≠ none →
    ∃ t res, exec .computationComplete s = .next t ∧ t.engine.results = some res ∧
      res.offset.get n.ref = some (n.oRef % n.cycle) ∧ res.weight = weightOf n ∧
      ∀ a b xa xb oa ob, Linked n a b → n.slots.get a = some xa → n.slots.get b = some xb →
        res.offset.get a = some oa → res.offset.get b = some ob →
        ∃ delta z : Int, LinkDifference n a b xa xb delta ∧ (ob : Int) - oa = delta + z * n.cycle

/-- The bands: 0 with fewer than two counted junctions, and never above a counted junction's green; each share is the
floor of 100 band / C. Where exactly two junctions a and b are counted, each band is the first one's green, moved by
the travel time over every link between them and cut as R50 says, with the computed offsets for the designed band and
the current offsets for the current one (R48 to R52). -/
def Obligations.BandsFollowTheWalk : Prop :=
  ∀ (s : State) (n : Snapshot) (counted : List Slot), s.engine.inFlight = some n → 0 < n.cycle → 0 < n.sIn →
    0 < n.sOut → Ascending counted →
    (∀ k, k ∈ counted ↔ ∃ x, n.slots.get k = some x ∧ x.counted = true) →
    ∃ t res, exec .computationComplete s = .next t ∧ t.engine.results = some res ∧
      res.counted = counted.length ∧
      (counted.length < 2 → res.designed = ⟨0, 0⟩ ∧ res.current = ⟨0, 0⟩) ∧
      (∀ k x, k ∈ counted → n.slots.get k = some x →
        res.designed.inbound ≤ x.green ∧ res.designed.outbound ≤ x.green ∧ res.current.inbound ≤ x.green ∧
          res.current.outbound ≤ x.green) ∧
      res.designedShare = ⟨100 * res.designed.inbound / n.cycle, 100 * res.designed.outbound / n.cycle⟩ ∧
      res.currentShare = ⟨100 * res.current.inbound / n.cycle, 100 * res.current.outbound / n.cycle⟩ ∧
      ∀ a b xa xb oa ob ca cb (inwards outwards : Slot → Int), counted = [a, b] → n.slots.get a = some xa →
        n.slots.get b = some xb → res.offset.get a = some oa → res.offset.get b = some ob → xa.offset = some ca →
        xb.offset = some cb → TravelsAt n n.sIn inwards → TravelsAt n n.sOut outwards →
        CutBand n.cycle (oa + (outwards b - outwards a)) (oa + xa.green + (outwards b - outwards a)) ob
          (clearanceOf n xb.queueOut xb.green) xb.green res.designed.outbound ∧
        CutBand n.cycle (ob + (inwards b - inwards a)) (ob + xb.green + (inwards b - inwards a)) oa
          (clearanceOf n xa.queueIn xa.green) xa.green res.designed.inbound ∧
        CutBand n.cycle (ca + (outwards b - outwards a)) (ca + xa.green + (outwards b - outwards a)) cb
          (clearanceOf n xb.queueOut xb.green) xb.green res.current.outbound ∧
        CutBand n.cycle (cb + (inwards b - inwards a)) (cb + xb.green + (inwards b - inwards a)) ca
          (clearanceOf n xa.queueIn xa.green) xa.green res.current.inbound

/-- Two ends of a time. At the download guard the download period closes; queued frames stay queued, and nothing else
changes but the clock (R15, R153). THE MODEL'S CHOICE (log 27): master time, wherever it stood before C - 60, is then
C - 60. At the end of a line-quality window, LINE_QUALITY of each defined slot stays when its count exceeds the
threshold and becomes false when it does not, every count becomes 0, and the next window begins (R162). -/
def Obligations.GuardAndQualityWindowFall : Prop :=
  (∀ s : State, s.corridor.state ≠ .idle → (∀ n, s.line.beacon ≠ .waiting n) → (∀ b, s.line.beacon ≠ .sending b) →
    s.line.sweep = none → s.clock.masterTime ≤ s.clock.length - 60 →
    exec .downloadGuard s = .next { s with
      clock := { s.clock with masterTime := s.clock.length - 60 }, line := { s.line with period := false } }) ∧
  ∀ s : State, ∃ t, exec .lineQualityWindowEnd s = .next t ∧
    t = { s with
      line := { s.line with windowTime := 0, quality := t.line.quality }, notices := t.notices } ∧
    (∀ k, s.corridor.table.get k ≠ none → t.line.quality.get k =
      { count := 0
        current := (s.line.quality.get k).current &&
          decide (s.corridor.settings.qualityThreshold < (s.line.quality.get k).count) }) ∧
    (∀ k, s.corridor.table.get k = none → t.line.quality.get k = s.line.quality.get k) ∧
    t.notices.corridor = s.notices.corridor ∧ t.notices.masks = s.notices.masks ∧
    t.notices.queue = s.notices.queue ∧
    ∀ k, s.corridor.table.get k ≠ none → (t.notices.slots.get k).lineQuality.current =
      ((s.notices.slots.get k).lineQuality.current &&
        !((s.line.quality.get k).current &&
          !decide (s.corridor.settings.qualityThreshold < (s.line.quality.get k).count)))
end

