-- ==== Sys2Proof/Laws/Arithmetic.lean ====
section
/-! SUPPORT. The arithmetic of a cycle: remainders, and the representative nearest zero (00, "Cycle arithmetic"). -/

namespace Sys2Proof.Machine

/-- The remainder of a sum that is not negative. -/
theorem modC_add (c a b : Nat) : modC c ((a : Int) + b) = (a + b) % c := by
  unfold modC
  rw [← Int.natCast_add, ← Int.natCast_emod]
  rfl

/-- A remainder lies below the cycle. -/
theorem modC_lt {c : Nat} (h : 0 < c) (x : Int) : modC c x < c := by
  have h0 := Int.emod_nonneg x (b := (c : Int)) (by omega)
  have h1 := Int.emod_lt_of_pos x (b := (c : Int)) (by omega)
  unfold modC
  omega

/-- A difference smaller than half the cycle is its own representative. -/
theorem centre_of_small {c t : Nat} {x : Int} (h : 2 * t < c) (small : x.natAbs ≤ t) : centre c x = x := by
  simp only [centre]
  by_cases hx : 0 ≤ x
  · rw [Int.emod_eq_of_lt hx (by omega), if_neg (by omega)]
  · have : x % (c : Int) = x + c := by
      rw [← Int.add_emod_right]; exact Int.emod_eq_of_lt (by omega) (by omega)
    rw [this, if_pos (by omega)]; omega

end Sys2Proof.Machine
end

