-- ==== Sys2Proof/Laws/Slots.lean ====
section
/-! SUPPORT. Reading and writing one place of a table, and the numbers of slots, plans and directory slots. -/

namespace Sys2Proof.Machine

@[simp] theorem Slot.mem_all (k : Slot) : k ∈ Slot.all := by cases k <;> decide

@[simp] theorem PlanNo.mem_all (p : PlanNo) : p ∈ PlanNo.all := by cases p <;> decide

@[simp] theorem DirSlot.mem_all (x : DirSlot) : x ∈ DirSlot.all := by cases x <;> decide

theorem Slot.num_inj {j k : Slot} (h : j.num = k.num) : j = k := by
  cases j <;> cases k <;> first | rfl | exact absurd h (by decide)

@[simp] theorem Slot.ofNum_num (k : Slot) : Slot.ofNum k.num = some k := by cases k <;> decide

@[simp] theorem PlanNo.ofNum_num (p : PlanNo) : PlanNo.ofNum p.num = some p := by cases p <;> decide

@[simp] theorem DirSlot.ofNum_num (x : DirSlot) : DirSlot.ofNum x.num = some x := by cases x <;> decide

theorem Slot.num_of_ofNum {n : Nat} {k : Slot} (h : Slot.ofNum n = some k) : k.num = n := by
  have := List.find?_some h
  simpa using this

theorem PlanNo.num_of_ofNum {n : Nat} {p : PlanNo} (h : PlanNo.ofNum n = some p) : p.num = n := by
  have := List.find?_some h
  simpa using this

@[simp] theorem PerSlot.get_set_self {α : Type} (v : PerSlot α) (k : Slot) (a : α) : (v.set k a).get k = a := by
  cases k <;> rfl

theorem PerSlot.get_set_ne {α : Type} (v : PerSlot α) {j k : Slot} (h : j ≠ k) (a : α) :
    (v.set k a).get j = v.get j := by
  cases j <;> cases k <;> first | rfl | exact absurd rfl h

theorem PerSlot.get_set {α : Type} (v : PerSlot α) (j k : Slot) (a : α) :
    (v.set k a).get j = if j = k then a else v.get j := by
  by_cases h : j = k
  · subst h; simp
  · simp [h, PerSlot.get_set_ne]

@[simp] theorem PerSlot.get_of {α : Type} (f : Slot → α) (k : Slot) : (PerSlot.of f).get k = f k := by
  cases k <;> rfl

@[simp] theorem PerSlot.get_mapSlot {α β : Type} (v : PerSlot α) (f : Slot → α → β) (k : Slot) :
    (v.mapSlot f).get k = f k (v.get k) := by
  cases k <;> rfl

@[simp] theorem PerSlot.get_fill {α : Type} (a : α) (k : Slot) : (PerSlot.fill a).get k = a := by
  cases k <;> rfl

/-- Two tables with the same value in every slot are equal. -/
theorem PerSlot.ext_get {α : Type} {v w : PerSlot α} (h : ∀ k, v.get k = w.get k) : v = w := by
  cases v; cases w
  have h1 := h .k1; have h2 := h .k2; have h3 := h .k3; have h4 := h .k4; have h5 := h .k5; have h6 := h .k6
  have h7 := h .k7; have h8 := h .k8; have h9 := h .k9; have h10 := h .k10; have h11 := h .k11; have h12 := h .k12
  simp only [PerSlot.get] at *
  simp [*]

@[simp] theorem PlanTable.get_set_self (v : PlanTable) (p : PlanNo) (r : PlanRecord) : (v.set p r).get p = r := by
  cases p <;> rfl

theorem PlanTable.get_set_ne (v : PlanTable) {p q : PlanNo} (h : q ≠ p) (r : PlanRecord) :
    (v.set p r).get q = v.get q := by
  cases q <;> cases p <;> first | rfl | exact absurd rfl h

@[simp] theorem Directory.get_set_self (d : Directory) (x : DirSlot) (c : SlotContent) : (d.set x c).get x = c := by
  cases x <;> rfl

theorem Directory.get_set_ne (d : Directory) {x y : DirSlot} (h : y ≠ x) (c : SlotContent) :
    (d.set x c).get y = d.get y := by
  cases x <;> cases y <;> first | rfl | exact absurd rfl h

@[simp] theorem Directory.get_mapContent (d : Directory) (f : DirSlot → SlotContent → SlotContent) (x : DirSlot) :
    (d.mapContent f).get x = f x (d.get x) := by
  cases x <;> rfl

end Sys2Proof.Machine
end

