-- ==== Sys2Proof/Laws/State.lean ====
section
/-! SUPPORT. What each replacement of a block leaves in each field of the state, one lemma per field per update. -/

namespace Sys2Proof.Machine

section setCorridor
variable (s : State) (b : Corridor)
@[simp] theorem State.setCorridor_corridor : (s.setCorridor b).corridor = b := rfl
@[simp] theorem State.setCorridor_clock : (s.setCorridor b).clock = s.clock := rfl
@[simp] theorem State.setCorridor_plans : (s.setCorridor b).plans = s.plans := rfl
@[simp] theorem State.setCorridor_flow : (s.setCorridor b).flow = s.flow := rfl
@[simp] theorem State.setCorridor_engine : (s.setCorridor b).engine = s.engine := rfl
@[simp] theorem State.setCorridor_transition : (s.setCorridor b).transition = s.transition := rfl
@[simp] theorem State.setCorridor_monitor : (s.setCorridor b).monitor = s.monitor := rfl
@[simp] theorem State.setCorridor_directory : (s.setCorridor b).directory = s.directory := rfl
@[simp] theorem State.setCorridor_line : (s.setCorridor b).line = s.line := rfl
@[simp] theorem State.setCorridor_host : (s.setCorridor b).host = s.host := rfl
@[simp] theorem State.setCorridor_notices : (s.setCorridor b).notices = s.notices := rfl
@[simp] theorem State.setCorridor_free : (s.setCorridor b).free = s.free := rfl
@[simp] theorem State.setCorridor_pending : (s.setCorridor b).pending = s.pending := rfl
end setCorridor

section setClock
variable (s : State) (b : Clock)
@[simp] theorem State.setClock_corridor : (s.setClock b).corridor = s.corridor := rfl
@[simp] theorem State.setClock_clock : (s.setClock b).clock = b := rfl
@[simp] theorem State.setClock_plans : (s.setClock b).plans = s.plans := rfl
@[simp] theorem State.setClock_flow : (s.setClock b).flow = s.flow := rfl
@[simp] theorem State.setClock_engine : (s.setClock b).engine = s.engine := rfl
@[simp] theorem State.setClock_transition : (s.setClock b).transition = s.transition := rfl
@[simp] theorem State.setClock_monitor : (s.setClock b).monitor = s.monitor := rfl
@[simp] theorem State.setClock_directory : (s.setClock b).directory = s.directory := rfl
@[simp] theorem State.setClock_line : (s.setClock b).line = s.line := rfl
@[simp] theorem State.setClock_host : (s.setClock b).host = s.host := rfl
@[simp] theorem State.setClock_notices : (s.setClock b).notices = s.notices := rfl
@[simp] theorem State.setClock_free : (s.setClock b).free = s.free := rfl
@[simp] theorem State.setClock_pending : (s.setClock b).pending = s.pending := rfl
end setClock

section setPlans
variable (s : State) (b : PlanTable)
@[simp] theorem State.setPlans_corridor : (s.setPlans b).corridor = s.corridor := rfl
@[simp] theorem State.setPlans_clock : (s.setPlans b).clock = s.clock := rfl
@[simp] theorem State.setPlans_plans : (s.setPlans b).plans = b := rfl
@[simp] theorem State.setPlans_flow : (s.setPlans b).flow = s.flow := rfl
@[simp] theorem State.setPlans_engine : (s.setPlans b).engine = s.engine := rfl
@[simp] theorem State.setPlans_transition : (s.setPlans b).transition = s.transition := rfl
@[simp] theorem State.setPlans_monitor : (s.setPlans b).monitor = s.monitor := rfl
@[simp] theorem State.setPlans_directory : (s.setPlans b).directory = s.directory := rfl
@[simp] theorem State.setPlans_line : (s.setPlans b).line = s.line := rfl
@[simp] theorem State.setPlans_host : (s.setPlans b).host = s.host := rfl
@[simp] theorem State.setPlans_notices : (s.setPlans b).notices = s.notices := rfl
@[simp] theorem State.setPlans_free : (s.setPlans b).free = s.free := rfl
@[simp] theorem State.setPlans_pending : (s.setPlans b).pending = s.pending := rfl
end setPlans

section setFlow
variable (s : State) (b : Flow)
@[simp] theorem State.setFlow_corridor : (s.setFlow b).corridor = s.corridor := rfl
@[simp] theorem State.setFlow_clock : (s.setFlow b).clock = s.clock := rfl
@[simp] theorem State.setFlow_plans : (s.setFlow b).plans = s.plans := rfl
@[simp] theorem State.setFlow_flow : (s.setFlow b).flow = b := rfl
@[simp] theorem State.setFlow_engine : (s.setFlow b).engine = s.engine := rfl
@[simp] theorem State.setFlow_transition : (s.setFlow b).transition = s.transition := rfl
@[simp] theorem State.setFlow_monitor : (s.setFlow b).monitor = s.monitor := rfl
@[simp] theorem State.setFlow_directory : (s.setFlow b).directory = s.directory := rfl
@[simp] theorem State.setFlow_line : (s.setFlow b).line = s.line := rfl
@[simp] theorem State.setFlow_host : (s.setFlow b).host = s.host := rfl
@[simp] theorem State.setFlow_notices : (s.setFlow b).notices = s.notices := rfl
@[simp] theorem State.setFlow_free : (s.setFlow b).free = s.free := rfl
@[simp] theorem State.setFlow_pending : (s.setFlow b).pending = s.pending := rfl
end setFlow

section setEngine
variable (s : State) (b : Engine)
@[simp] theorem State.setEngine_corridor : (s.setEngine b).corridor = s.corridor := rfl
@[simp] theorem State.setEngine_clock : (s.setEngine b).clock = s.clock := rfl
@[simp] theorem State.setEngine_plans : (s.setEngine b).plans = s.plans := rfl
@[simp] theorem State.setEngine_flow : (s.setEngine b).flow = s.flow := rfl
@[simp] theorem State.setEngine_engine : (s.setEngine b).engine = b := rfl
@[simp] theorem State.setEngine_transition : (s.setEngine b).transition = s.transition := rfl
@[simp] theorem State.setEngine_monitor : (s.setEngine b).monitor = s.monitor := rfl
@[simp] theorem State.setEngine_directory : (s.setEngine b).directory = s.directory := rfl
@[simp] theorem State.setEngine_line : (s.setEngine b).line = s.line := rfl
@[simp] theorem State.setEngine_host : (s.setEngine b).host = s.host := rfl
@[simp] theorem State.setEngine_notices : (s.setEngine b).notices = s.notices := rfl
@[simp] theorem State.setEngine_free : (s.setEngine b).free = s.free := rfl
@[simp] theorem State.setEngine_pending : (s.setEngine b).pending = s.pending := rfl
end setEngine

section setTransition
variable (s : State) (b : Transition)
@[simp] theorem State.setTransition_corridor : (s.setTransition b).corridor = s.corridor := rfl
@[simp] theorem State.setTransition_clock : (s.setTransition b).clock = s.clock := rfl
@[simp] theorem State.setTransition_plans : (s.setTransition b).plans = s.plans := rfl
@[simp] theorem State.setTransition_flow : (s.setTransition b).flow = s.flow := rfl
@[simp] theorem State.setTransition_engine : (s.setTransition b).engine = s.engine := rfl
@[simp] theorem State.setTransition_transition : (s.setTransition b).transition = b := rfl
@[simp] theorem State.setTransition_monitor : (s.setTransition b).monitor = s.monitor := rfl
@[simp] theorem State.setTransition_directory : (s.setTransition b).directory = s.directory := rfl
@[simp] theorem State.setTransition_line : (s.setTransition b).line = s.line := rfl
@[simp] theorem State.setTransition_host : (s.setTransition b).host = s.host := rfl
@[simp] theorem State.setTransition_notices : (s.setTransition b).notices = s.notices := rfl
@[simp] theorem State.setTransition_free : (s.setTransition b).free = s.free := rfl
@[simp] theorem State.setTransition_pending : (s.setTransition b).pending = s.pending := rfl
end setTransition

section setMonitor
variable (s : State) (b : PerSlot StepRecord)
@[simp] theorem State.setMonitor_corridor : (s.setMonitor b).corridor = s.corridor := rfl
@[simp] theorem State.setMonitor_clock : (s.setMonitor b).clock = s.clock := rfl
@[simp] theorem State.setMonitor_plans : (s.setMonitor b).plans = s.plans := rfl
@[simp] theorem State.setMonitor_flow : (s.setMonitor b).flow = s.flow := rfl
@[simp] theorem State.setMonitor_engine : (s.setMonitor b).engine = s.engine := rfl
@[simp] theorem State.setMonitor_transition : (s.setMonitor b).transition = s.transition := rfl
@[simp] theorem State.setMonitor_monitor : (s.setMonitor b).monitor = b := rfl
@[simp] theorem State.setMonitor_directory : (s.setMonitor b).directory = s.directory := rfl
@[simp] theorem State.setMonitor_line : (s.setMonitor b).line = s.line := rfl
@[simp] theorem State.setMonitor_host : (s.setMonitor b).host = s.host := rfl
@[simp] theorem State.setMonitor_notices : (s.setMonitor b).notices = s.notices := rfl
@[simp] theorem State.setMonitor_free : (s.setMonitor b).free = s.free := rfl
@[simp] theorem State.setMonitor_pending : (s.setMonitor b).pending = s.pending := rfl
end setMonitor

section setDirectory
variable (s : State) (b : DirectoryUnit)
@[simp] theorem State.setDirectory_corridor : (s.setDirectory b).corridor = s.corridor := rfl
@[simp] theorem State.setDirectory_clock : (s.setDirectory b).clock = s.clock := rfl
@[simp] theorem State.setDirectory_plans : (s.setDirectory b).plans = s.plans := rfl
@[simp] theorem State.setDirectory_flow : (s.setDirectory b).flow = s.flow := rfl
@[simp] theorem State.setDirectory_engine : (s.setDirectory b).engine = s.engine := rfl
@[simp] theorem State.setDirectory_transition : (s.setDirectory b).transition = s.transition := rfl
@[simp] theorem State.setDirectory_monitor : (s.setDirectory b).monitor = s.monitor := rfl
@[simp] theorem State.setDirectory_directory : (s.setDirectory b).directory = b := rfl
@[simp] theorem State.setDirectory_line : (s.setDirectory b).line = s.line := rfl
@[simp] theorem State.setDirectory_host : (s.setDirectory b).host = s.host := rfl
@[simp] theorem State.setDirectory_notices : (s.setDirectory b).notices = s.notices := rfl
@[simp] theorem State.setDirectory_free : (s.setDirectory b).free = s.free := rfl
@[simp] theorem State.setDirectory_pending : (s.setDirectory b).pending = s.pending := rfl
end setDirectory

section setLine
variable (s : State) (b : Line)
@[simp] theorem State.setLine_corridor : (s.setLine b).corridor = s.corridor := rfl
@[simp] theorem State.setLine_clock : (s.setLine b).clock = s.clock := rfl
@[simp] theorem State.setLine_plans : (s.setLine b).plans = s.plans := rfl
@[simp] theorem State.setLine_flow : (s.setLine b).flow = s.flow := rfl
@[simp] theorem State.setLine_engine : (s.setLine b).engine = s.engine := rfl
@[simp] theorem State.setLine_transition : (s.setLine b).transition = s.transition := rfl
@[simp] theorem State.setLine_monitor : (s.setLine b).monitor = s.monitor := rfl
@[simp] theorem State.setLine_directory : (s.setLine b).directory = s.directory := rfl
@[simp] theorem State.setLine_line : (s.setLine b).line = b := rfl
@[simp] theorem State.setLine_host : (s.setLine b).host = s.host := rfl
@[simp] theorem State.setLine_notices : (s.setLine b).notices = s.notices := rfl
@[simp] theorem State.setLine_free : (s.setLine b).free = s.free := rfl
@[simp] theorem State.setLine_pending : (s.setLine b).pending = s.pending := rfl
end setLine

section setHost
variable (s : State) (b : HostLink)
@[simp] theorem State.setHost_corridor : (s.setHost b).corridor = s.corridor := rfl
@[simp] theorem State.setHost_clock : (s.setHost b).clock = s.clock := rfl
@[simp] theorem State.setHost_plans : (s.setHost b).plans = s.plans := rfl
@[simp] theorem State.setHost_flow : (s.setHost b).flow = s.flow := rfl
@[simp] theorem State.setHost_engine : (s.setHost b).engine = s.engine := rfl
@[simp] theorem State.setHost_transition : (s.setHost b).transition = s.transition := rfl
@[simp] theorem State.setHost_monitor : (s.setHost b).monitor = s.monitor := rfl
@[simp] theorem State.setHost_directory : (s.setHost b).directory = s.directory := rfl
@[simp] theorem State.setHost_line : (s.setHost b).line = s.line := rfl
@[simp] theorem State.setHost_host : (s.setHost b).host = b := rfl
@[simp] theorem State.setHost_notices : (s.setHost b).notices = s.notices := rfl
@[simp] theorem State.setHost_free : (s.setHost b).free = s.free := rfl
@[simp] theorem State.setHost_pending : (s.setHost b).pending = s.pending := rfl
end setHost

section setNotices
variable (s : State) (b : NoticeUnit)
@[simp] theorem State.setNotices_corridor : (s.setNotices b).corridor = s.corridor := rfl
@[simp] theorem State.setNotices_clock : (s.setNotices b).clock = s.clock := rfl
@[simp] theorem State.setNotices_plans : (s.setNotices b).plans = s.plans := rfl
@[simp] theorem State.setNotices_flow : (s.setNotices b).flow = s.flow := rfl
@[simp] theorem State.setNotices_engine : (s.setNotices b).engine = s.engine := rfl
@[simp] theorem State.setNotices_transition : (s.setNotices b).transition = s.transition := rfl
@[simp] theorem State.setNotices_monitor : (s.setNotices b).monitor = s.monitor := rfl
@[simp] theorem State.setNotices_directory : (s.setNotices b).directory = s.directory := rfl
@[simp] theorem State.setNotices_line : (s.setNotices b).line = s.line := rfl
@[simp] theorem State.setNotices_host : (s.setNotices b).host = s.host := rfl
@[simp] theorem State.setNotices_notices : (s.setNotices b).notices = b := rfl
@[simp] theorem State.setNotices_free : (s.setNotices b).free = s.free := rfl
@[simp] theorem State.setNotices_pending : (s.setNotices b).pending = s.pending := rfl
end setNotices

section answer
variable (s : State) (r : Request) (y : Reply)
@[simp] theorem State.answer_corridor : (s.answer r y).corridor = s.corridor := rfl
@[simp] theorem State.answer_clock : (s.answer r y).clock = s.clock := rfl
@[simp] theorem State.answer_plans : (s.answer r y).plans = s.plans := rfl
@[simp] theorem State.answer_flow : (s.answer r y).flow = s.flow := rfl
@[simp] theorem State.answer_engine : (s.answer r y).engine = s.engine := rfl
@[simp] theorem State.answer_transition : (s.answer r y).transition = s.transition := rfl
@[simp] theorem State.answer_monitor : (s.answer r y).monitor = s.monitor := rfl
@[simp] theorem State.answer_directory : (s.answer r y).directory = s.directory := rfl
@[simp] theorem State.answer_line : (s.answer r y).line = s.line := rfl
@[simp] theorem State.answer_notices : (s.answer r y).notices = s.notices := rfl
@[simp] theorem State.answer_free : (s.answer r y).free = s.free := rfl
@[simp] theorem State.answer_pending : (s.answer r y).pending = s.pending := rfl
@[simp] theorem State.answer_queue : (s.answer r y).host.queue = s.host.queue := rfl
@[simp] theorem State.answer_framer : (s.answer r y).host.framer = s.host.framer := rfl
@[simp] theorem State.answer_sending : (s.answer r y).host.sending = s.host.sending := rfl
@[simp] theorem State.answer_serving : (s.answer r y).host.serving = true := rfl
end answer

section signal
variable (s : State) (g : Signal)
@[simp] theorem State.signal_corridor : (s.signal g).corridor = s.corridor := rfl
@[simp] theorem State.signal_clock : (s.signal g).clock = s.clock := rfl
@[simp] theorem State.signal_plans : (s.signal g).plans = s.plans := rfl
@[simp] theorem State.signal_flow : (s.signal g).flow = s.flow := rfl
@[simp] theorem State.signal_engine : (s.signal g).engine = s.engine := rfl
@[simp] theorem State.signal_transition : (s.signal g).transition = s.transition := rfl
@[simp] theorem State.signal_monitor : (s.signal g).monitor = s.monitor := rfl
@[simp] theorem State.signal_directory : (s.signal g).directory = s.directory := rfl
@[simp] theorem State.signal_line : (s.signal g).line = s.line := rfl
@[simp] theorem State.signal_host : (s.signal g).host = s.host := rfl
@[simp] theorem State.signal_notices : (s.signal g).notices = s.notices.signal s.stamp g := rfl
@[simp] theorem State.signal_free : (s.signal g).free = s.free := rfl
@[simp] theorem State.signal_pending : (s.signal g).pending = s.pending := rfl
end signal

/-- Two states whose blocks agree are equal. -/
theorem State.eq_of_blocks {s t : State} (corridor : s.corridor = t.corridor) (clock : s.clock = t.clock)
    (plans : s.plans = t.plans) (flow : s.flow = t.flow) (engine : s.engine = t.engine)
    (transition : s.transition = t.transition) (monitor : s.monitor = t.monitor)
    (directory : s.directory = t.directory) (line : s.line = t.line) (host : s.host = t.host)
    (notices : s.notices = t.notices) (free : s.free = t.free) (pending : s.pending = t.pending) : s = t := by
  cases s; cases t; simp_all

end Sys2Proof.Machine
end

