-- ==== Sys2Proof/Laws/Frames.lean ====
section
/-! SUPPORT. What each shared operation leaves unchanged, field by field: no block changes another's state except by
a message (00, block overview). -/

namespace Sys2Proof.Machine

/-- What every round of a fold leaves unchanged, the fold leaves unchanged. -/
theorem foldl_keeps {σ α β : Type} (g : σ → β) (f : σ → α → σ) (h : ∀ s a, g (f s a) = g s) (l : List α) (s : σ) :
    g (l.foldl f s) = g s := by
  induction l generalizing s with
  | nil => rfl
  | cons a l ih => simp [ih, h]

/-- What every round of a fold keeps true, the fold keeps true. -/
theorem foldl_invariant {σ α : Type} (p : σ → Prop) (f : σ → α → σ) (h : ∀ s a, p s → p (f s a)) (l : List α) (s : σ)
    (hs : p s) : p (l.foldl f s) := by
  induction l generalizing s with
  | nil => exact hs
  | cons a l ih => exact ih _ (h s a hs)

/-! ### Reports to the Notice Unit -/

@[simp] theorem State.signals_corridor (s : State) (gs : List Signal) : (s.signals gs).corridor = s.corridor := by
  exact foldl_keeps State.corridor State.signal (fun _ _ => rfl) gs s

@[simp] theorem State.signals_clock (s : State) (gs : List Signal) : (s.signals gs).clock = s.clock := by
  exact foldl_keeps State.clock State.signal (fun _ _ => rfl) gs s

@[simp] theorem State.signals_plans (s : State) (gs : List Signal) : (s.signals gs).plans = s.plans := by
  exact foldl_keeps State.plans State.signal (fun _ _ => rfl) gs s

@[simp] theorem State.signals_flow (s : State) (gs : List Signal) : (s.signals gs).flow = s.flow := by
  exact foldl_keeps State.flow State.signal (fun _ _ => rfl) gs s

@[simp] theorem State.signals_engine (s : State) (gs : List Signal) : (s.signals gs).engine = s.engine := by
  exact foldl_keeps State.engine State.signal (fun _ _ => rfl) gs s

@[simp] theorem State.signals_transition (s : State) (gs : List Signal) : (s.signals gs).transition = s.transition := by
  exact foldl_keeps State.transition State.signal (fun _ _ => rfl) gs s

@[simp] theorem State.signals_monitor (s : State) (gs : List Signal) : (s.signals gs).monitor = s.monitor := by
  exact foldl_keeps State.monitor State.signal (fun _ _ => rfl) gs s

@[simp] theorem State.signals_directory (s : State) (gs : List Signal) : (s.signals gs).directory = s.directory := by
  exact foldl_keeps State.directory State.signal (fun _ _ => rfl) gs s

@[simp] theorem State.signals_line (s : State) (gs : List Signal) : (s.signals gs).line = s.line := by
  exact foldl_keeps State.line State.signal (fun _ _ => rfl) gs s

@[simp] theorem State.signals_host (s : State) (gs : List Signal) : (s.signals gs).host = s.host := by
  exact foldl_keeps State.host State.signal (fun _ _ => rfl) gs s

@[simp] theorem State.signals_free (s : State) (gs : List Signal) : (s.signals gs).free = s.free := by
  exact foldl_keeps State.free State.signal (fun _ _ => rfl) gs s

@[simp] theorem State.signals_pending (s : State) (gs : List Signal) : (s.signals gs).pending = s.pending := by
  exact foldl_keeps State.pending State.signal (fun _ _ => rfl) gs s

/-! ### One moment (R191) -/

@[simp] theorem State.gather_corridor (s : State) : s.gather.corridor = s.corridor := rfl

@[simp] theorem State.gather_clock (s : State) : s.gather.clock = s.clock := rfl

@[simp] theorem State.gather_plans (s : State) : s.gather.plans = s.plans := rfl

@[simp] theorem State.gather_flow (s : State) : s.gather.flow = s.flow := rfl

@[simp] theorem State.gather_engine (s : State) : s.gather.engine = s.engine := rfl

@[simp] theorem State.gather_transition (s : State) : s.gather.transition = s.transition := rfl

@[simp] theorem State.gather_monitor (s : State) : s.gather.monitor = s.monitor := rfl

@[simp] theorem State.gather_directory (s : State) : s.gather.directory = s.directory := rfl

@[simp] theorem State.gather_line (s : State) : s.gather.line = s.line := rfl

@[simp] theorem State.gather_host (s : State) : s.gather.host = s.host := rfl

@[simp] theorem State.gather_free (s : State) : s.gather.free = s.free := rfl

@[simp] theorem State.gather_pending (s : State) : s.gather.pending = s.pending := rfl

@[simp] theorem State.moment_corridor (f : State → State) (s : State) : (s.moment f).corridor = (f s.gather).corridor := rfl

@[simp] theorem State.moment_clock (f : State → State) (s : State) : (s.moment f).clock = (f s.gather).clock := rfl

@[simp] theorem State.moment_plans (f : State → State) (s : State) : (s.moment f).plans = (f s.gather).plans := rfl

@[simp] theorem State.moment_flow (f : State → State) (s : State) : (s.moment f).flow = (f s.gather).flow := rfl

@[simp] theorem State.moment_engine (f : State → State) (s : State) : (s.moment f).engine = (f s.gather).engine := rfl

@[simp] theorem State.moment_transition (f : State → State) (s : State) : (s.moment f).transition = (f s.gather).transition := rfl

@[simp] theorem State.moment_monitor (f : State → State) (s : State) : (s.moment f).monitor = (f s.gather).monitor := rfl

@[simp] theorem State.moment_directory (f : State → State) (s : State) : (s.moment f).directory = (f s.gather).directory := rfl

@[simp] theorem State.moment_line (f : State → State) (s : State) : (s.moment f).line = (f s.gather).line := rfl

@[simp] theorem State.moment_host (f : State → State) (s : State) : (s.moment f).host = (f s.gather).host := rfl

@[simp] theorem State.moment_pending (f : State → State) (s : State) : (s.moment f).pending = (f s.gather).pending := rfl

@[simp] theorem State.sendBlocked_corridor (s : State)  : (s.sendBlocked).corridor = s.corridor := by
  simp [State.sendBlocked]

@[simp] theorem State.sendBlocked_clock (s : State)  : (s.sendBlocked).clock = s.clock := by
  simp [State.sendBlocked]

@[simp] theorem State.sendBlocked_plans (s : State)  : (s.sendBlocked).plans = s.plans := by
  simp [State.sendBlocked]

@[simp] theorem State.sendBlocked_flow (s : State)  : (s.sendBlocked).flow = s.flow := by
  simp [State.sendBlocked]

@[simp] theorem State.sendBlocked_engine (s : State)  : (s.sendBlocked).engine = s.engine := by
  simp [State.sendBlocked]

@[simp] theorem State.sendBlocked_transition (s : State)  : (s.sendBlocked).transition = s.transition := by
  simp [State.sendBlocked]

@[simp] theorem State.sendBlocked_monitor (s : State)  : (s.sendBlocked).monitor = s.monitor := by
  simp [State.sendBlocked]

@[simp] theorem State.sendBlocked_directory (s : State)  : (s.sendBlocked).directory = s.directory := by
  simp [State.sendBlocked]

@[simp] theorem State.sendBlocked_line (s : State)  : (s.sendBlocked).line = s.line := by
  simp [State.sendBlocked]

@[simp] theorem State.sendBlocked_host (s : State)  : (s.sendBlocked).host = s.host := by
  simp [State.sendBlocked]

@[simp] theorem State.sendBlocked_free (s : State)  : (s.sendBlocked).free = s.free := by
  simp [State.sendBlocked]

@[simp] theorem State.sendBlocked_pending (s : State)  : (s.sendBlocked).pending = s.pending := by
  simp [State.sendBlocked]

@[simp] theorem State.hostFrameError_corridor (s : State) (f : HostFault) : (s.hostFrameError f).corridor = s.corridor := by
  simp [State.hostFrameError]

@[simp] theorem State.hostFrameError_clock (s : State) (f : HostFault) : (s.hostFrameError f).clock = s.clock := by
  simp [State.hostFrameError]

@[simp] theorem State.hostFrameError_plans (s : State) (f : HostFault) : (s.hostFrameError f).plans = s.plans := by
  simp [State.hostFrameError]

@[simp] theorem State.hostFrameError_flow (s : State) (f : HostFault) : (s.hostFrameError f).flow = s.flow := by
  simp [State.hostFrameError]

@[simp] theorem State.hostFrameError_engine (s : State) (f : HostFault) : (s.hostFrameError f).engine = s.engine := by
  simp [State.hostFrameError]

@[simp] theorem State.hostFrameError_transition (s : State) (f : HostFault) : (s.hostFrameError f).transition = s.transition := by
  simp [State.hostFrameError]

@[simp] theorem State.hostFrameError_monitor (s : State) (f : HostFault) : (s.hostFrameError f).monitor = s.monitor := by
  simp [State.hostFrameError]

@[simp] theorem State.hostFrameError_directory (s : State) (f : HostFault) : (s.hostFrameError f).directory = s.directory := by
  simp [State.hostFrameError]

@[simp] theorem State.hostFrameError_line (s : State) (f : HostFault) : (s.hostFrameError f).line = s.line := by
  simp [State.hostFrameError]

@[simp] theorem State.hostFrameError_host (s : State) (f : HostFault) : (s.hostFrameError f).host = s.host := by
  simp [State.hostFrameError]

@[simp] theorem State.hostFrameError_free (s : State) (f : HostFault) : (s.hostFrameError f).free = s.free := by
  simp [State.hostFrameError]

@[simp] theorem State.hostFrameError_pending (s : State) (f : HostFault) : (s.hostFrameError f).pending = s.pending := by
  simp [State.hostFrameError]


/-! ### Host link -/

@[simp] theorem State.receiveRequest_corridor (s : State) (r : Request) : (s.receiveRequest r).corridor = s.corridor := by
  unfold State.receiveRequest; repeat' split
  all_goals simp

@[simp] theorem State.receiveRequest_clock (s : State) (r : Request) : (s.receiveRequest r).clock = s.clock := by
  unfold State.receiveRequest; repeat' split
  all_goals simp

@[simp] theorem State.receiveRequest_plans (s : State) (r : Request) : (s.receiveRequest r).plans = s.plans := by
  unfold State.receiveRequest; repeat' split
  all_goals simp

@[simp] theorem State.receiveRequest_flow (s : State) (r : Request) : (s.receiveRequest r).flow = s.flow := by
  unfold State.receiveRequest; repeat' split
  all_goals simp

@[simp] theorem State.receiveRequest_engine (s : State) (r : Request) : (s.receiveRequest r).engine = s.engine := by
  unfold State.receiveRequest; repeat' split
  all_goals simp

@[simp] theorem State.receiveRequest_transition (s : State) (r : Request) : (s.receiveRequest r).transition = s.transition := by
  unfold State.receiveRequest; repeat' split
  all_goals simp

@[simp] theorem State.receiveRequest_monitor (s : State) (r : Request) : (s.receiveRequest r).monitor = s.monitor := by
  unfold State.receiveRequest; repeat' split
  all_goals simp

@[simp] theorem State.receiveRequest_directory (s : State) (r : Request) : (s.receiveRequest r).directory = s.directory := by
  unfold State.receiveRequest; repeat' split
  all_goals simp

@[simp] theorem State.receiveRequest_line (s : State) (r : Request) : (s.receiveRequest r).line = s.line := by
  unfold State.receiveRequest; repeat' split
  all_goals simp

@[simp] theorem State.receiveRequest_free (s : State) (r : Request) : (s.receiveRequest r).free = s.free := by
  unfold State.receiveRequest; repeat' split
  all_goals simp

@[simp] theorem State.receiveRequest_pending (s : State) (r : Request) : (s.receiveRequest r).pending = s.pending := by
  unfold State.receiveRequest; repeat' split
  all_goals simp

@[simp] theorem State.receiveRecord_corridor (s : State) (acc : List Byte) : (s.receiveRecord acc).corridor = s.corridor := by
  unfold State.receiveRecord; dsimp only; repeat' split
  all_goals simp

@[simp] theorem State.receiveRecord_clock (s : State) (acc : List Byte) : (s.receiveRecord acc).clock = s.clock := by
  unfold State.receiveRecord; dsimp only; repeat' split
  all_goals simp

@[simp] theorem State.receiveRecord_plans (s : State) (acc : List Byte) : (s.receiveRecord acc).plans = s.plans := by
  unfold State.receiveRecord; dsimp only; repeat' split
  all_goals simp

@[simp] theorem State.receiveRecord_flow (s : State) (acc : List Byte) : (s.receiveRecord acc).flow = s.flow := by
  unfold State.receiveRecord; dsimp only; repeat' split
  all_goals simp

@[simp] theorem State.receiveRecord_engine (s : State) (acc : List Byte) : (s.receiveRecord acc).engine = s.engine := by
  unfold State.receiveRecord; dsimp only; repeat' split
  all_goals simp

@[simp] theorem State.receiveRecord_transition (s : State) (acc : List Byte) : (s.receiveRecord acc).transition = s.transition := by
  unfold State.receiveRecord; dsimp only; repeat' split
  all_goals simp

@[simp] theorem State.receiveRecord_monitor (s : State) (acc : List Byte) : (s.receiveRecord acc).monitor = s.monitor := by
  unfold State.receiveRecord; dsimp only; repeat' split
  all_goals simp

@[simp] theorem State.receiveRecord_directory (s : State) (acc : List Byte) : (s.receiveRecord acc).directory = s.directory := by
  unfold State.receiveRecord; dsimp only; repeat' split
  all_goals simp

@[simp] theorem State.receiveRecord_line (s : State) (acc : List Byte) : (s.receiveRecord acc).line = s.line := by
  unfold State.receiveRecord; dsimp only; repeat' split
  all_goals simp

@[simp] theorem State.receiveRecord_free (s : State) (acc : List Byte) : (s.receiveRecord acc).free = s.free := by
  unfold State.receiveRecord; dsimp only; repeat' split
  all_goals simp

@[simp] theorem State.receiveRecord_pending (s : State) (acc : List Byte) : (s.receiveRecord acc).pending = s.pending := by
  unfold State.receiveRecord; dsimp only; repeat' split
  all_goals simp

@[simp] theorem State.hostByte_corridor (s : State) (b : Byte) : (s.hostByte b).corridor = s.corridor := by
  unfold State.hostByte; dsimp only; repeat' split
  all_goals simp

@[simp] theorem State.hostByte_clock (s : State) (b : Byte) : (s.hostByte b).clock = s.clock := by
  unfold State.hostByte; dsimp only; repeat' split
  all_goals simp

@[simp] theorem State.hostByte_plans (s : State) (b : Byte) : (s.hostByte b).plans = s.plans := by
  unfold State.hostByte; dsimp only; repeat' split
  all_goals simp

@[simp] theorem State.hostByte_flow (s : State) (b : Byte) : (s.hostByte b).flow = s.flow := by
  unfold State.hostByte; dsimp only; repeat' split
  all_goals simp

@[simp] theorem State.hostByte_engine (s : State) (b : Byte) : (s.hostByte b).engine = s.engine := by
  unfold State.hostByte; dsimp only; repeat' split
  all_goals simp

@[simp] theorem State.hostByte_transition (s : State) (b : Byte) : (s.hostByte b).transition = s.transition := by
  unfold State.hostByte; dsimp only; repeat' split
  all_goals simp

@[simp] theorem State.hostByte_monitor (s : State) (b : Byte) : (s.hostByte b).monitor = s.monitor := by
  unfold State.hostByte; dsimp only; repeat' split
  all_goals simp

@[simp] theorem State.hostByte_directory (s : State) (b : Byte) : (s.hostByte b).directory = s.directory := by
  unfold State.hostByte; dsimp only; repeat' split
  all_goals simp

@[simp] theorem State.hostByte_line (s : State) (b : Byte) : (s.hostByte b).line = s.line := by
  unfold State.hostByte; dsimp only; repeat' split
  all_goals simp

@[simp] theorem State.hostByte_free (s : State) (b : Byte) : (s.hostByte b).free = s.free := by
  unfold State.hostByte; dsimp only; repeat' split
  all_goals simp

@[simp] theorem State.hostByte_pending (s : State) (b : Byte) : (s.hostByte b).pending = s.pending := by
  unfold State.hostByte; dsimp only; repeat' split
  all_goals simp


/-! ### Step Monitor and Transition Unit -/

@[simp] theorem State.tellTransition_corridor (s : State) (k : Slot) (m : Option StepMessage) : (s.tellTransition k m).corridor = s.corridor := by
  cases m <;> simp [State.tellTransition]

@[simp] theorem State.tellTransition_clock (s : State) (k : Slot) (m : Option StepMessage) : (s.tellTransition k m).clock = s.clock := by
  cases m <;> simp [State.tellTransition]

@[simp] theorem State.tellTransition_plans (s : State) (k : Slot) (m : Option StepMessage) : (s.tellTransition k m).plans = s.plans := by
  cases m <;> simp [State.tellTransition]

@[simp] theorem State.tellTransition_flow (s : State) (k : Slot) (m : Option StepMessage) : (s.tellTransition k m).flow = s.flow := by
  cases m <;> simp [State.tellTransition]

@[simp] theorem State.tellTransition_engine (s : State) (k : Slot) (m : Option StepMessage) : (s.tellTransition k m).engine = s.engine := by
  cases m <;> simp [State.tellTransition]

@[simp] theorem State.tellTransition_monitor (s : State) (k : Slot) (m : Option StepMessage) : (s.tellTransition k m).monitor = s.monitor := by
  cases m <;> simp [State.tellTransition]

@[simp] theorem State.tellTransition_directory (s : State) (k : Slot) (m : Option StepMessage) : (s.tellTransition k m).directory = s.directory := by
  cases m <;> simp [State.tellTransition]

@[simp] theorem State.tellTransition_line (s : State) (k : Slot) (m : Option StepMessage) : (s.tellTransition k m).line = s.line := by
  cases m <;> simp [State.tellTransition]

@[simp] theorem State.tellTransition_host (s : State) (k : Slot) (m : Option StepMessage) : (s.tellTransition k m).host = s.host := by
  cases m <;> simp [State.tellTransition]

@[simp] theorem State.tellTransition_notices (s : State) (k : Slot) (m : Option StepMessage) : (s.tellTransition k m).notices = s.notices := by
  cases m <;> simp [State.tellTransition]

@[simp] theorem State.tellTransition_free (s : State) (k : Slot) (m : Option StepMessage) : (s.tellTransition k m).free = s.free := by
  cases m <;> simp [State.tellTransition]

@[simp] theorem State.tellTransition_pending (s : State) (k : Slot) (m : Option StepMessage) : (s.tellTransition k m).pending = s.pending := by
  cases m <;> simp [State.tellTransition]

@[simp] theorem State.applyStep_corridor (s : State) (k : Slot) (e : StepEffect) : (s.applyStep k e).corridor = s.corridor := by
  simp [State.applyStep]

@[simp] theorem State.applyStep_clock (s : State) (k : Slot) (e : StepEffect) : (s.applyStep k e).clock = s.clock := by
  simp [State.applyStep]

@[simp] theorem State.applyStep_plans (s : State) (k : Slot) (e : StepEffect) : (s.applyStep k e).plans = s.plans := by
  simp [State.applyStep]

@[simp] theorem State.applyStep_flow (s : State) (k : Slot) (e : StepEffect) : (s.applyStep k e).flow = s.flow := by
  simp [State.applyStep]

@[simp] theorem State.applyStep_engine (s : State) (k : Slot) (e : StepEffect) : (s.applyStep k e).engine = s.engine := by
  simp [State.applyStep]

@[simp] theorem State.applyStep_directory (s : State) (k : Slot) (e : StepEffect) : (s.applyStep k e).directory = s.directory := by
  simp [State.applyStep]

@[simp] theorem State.applyStep_line (s : State) (k : Slot) (e : StepEffect) : (s.applyStep k e).line = s.line := by
  simp [State.applyStep]

@[simp] theorem State.applyStep_host (s : State) (k : Slot) (e : StepEffect) : (s.applyStep k e).host = s.host := by
  simp [State.applyStep]

@[simp] theorem State.applyStep_notices (s : State) (k : Slot) (e : StepEffect) : (s.applyStep k e).notices = s.notices := by
  simp [State.applyStep]

@[simp] theorem State.applyStep_free (s : State) (k : Slot) (e : StepEffect) : (s.applyStep k e).free = s.free := by
  simp [State.applyStep]

@[simp] theorem State.applyStep_pending (s : State) (k : Slot) (e : StepEffect) : (s.applyStep k e).pending = s.pending := by
  simp [State.applyStep]

@[simp] theorem State.deliverMiss_corridor (s : State) (k : Slot) : (s.deliverMiss k).corridor = s.corridor := by
  simp [State.deliverMiss]

@[simp] theorem State.deliverMiss_clock (s : State) (k : Slot) : (s.deliverMiss k).clock = s.clock := by
  simp [State.deliverMiss]

@[simp] theorem State.deliverMiss_plans (s : State) (k : Slot) : (s.deliverMiss k).plans = s.plans := by
  simp [State.deliverMiss]

@[simp] theorem State.deliverMiss_flow (s : State) (k : Slot) : (s.deliverMiss k).flow = s.flow := by
  simp [State.deliverMiss]

@[simp] theorem State.deliverMiss_engine (s : State) (k : Slot) : (s.deliverMiss k).engine = s.engine := by
  simp [State.deliverMiss]

@[simp] theorem State.deliverMiss_directory (s : State) (k : Slot) : (s.deliverMiss k).directory = s.directory := by
  simp [State.deliverMiss]

@[simp] theorem State.deliverMiss_line (s : State) (k : Slot) : (s.deliverMiss k).line = s.line := by
  simp [State.deliverMiss]

@[simp] theorem State.deliverMiss_host (s : State) (k : Slot) : (s.deliverMiss k).host = s.host := by
  simp [State.deliverMiss]

@[simp] theorem State.deliverMiss_free (s : State) (k : Slot) : (s.deliverMiss k).free = s.free := by
  simp [State.deliverMiss]

@[simp] theorem State.deliverMiss_pending (s : State) (k : Slot) : (s.deliverMiss k).pending = s.pending := by
  simp [State.deliverMiss]

@[simp] theorem State.deliverReport_corridor (s : State) (k : Slot) (x : StepReport) (y : Both ApproachReport) : (s.deliverReport k x y).corridor = s.corridor := by
  simp [State.deliverReport]

@[simp] theorem State.deliverReport_clock (s : State) (k : Slot) (x : StepReport) (y : Both ApproachReport) : (s.deliverReport k x y).clock = s.clock := by
  simp [State.deliverReport]

@[simp] theorem State.deliverReport_plans (s : State) (k : Slot) (x : StepReport) (y : Both ApproachReport) : (s.deliverReport k x y).plans = s.plans := by
  simp [State.deliverReport]

@[simp] theorem State.deliverReport_engine (s : State) (k : Slot) (x : StepReport) (y : Both ApproachReport) : (s.deliverReport k x y).engine = s.engine := by
  simp [State.deliverReport]

@[simp] theorem State.deliverReport_directory (s : State) (k : Slot) (x : StepReport) (y : Both ApproachReport) : (s.deliverReport k x y).directory = s.directory := by
  simp [State.deliverReport]

@[simp] theorem State.deliverReport_line (s : State) (k : Slot) (x : StepReport) (y : Both ApproachReport) : (s.deliverReport k x y).line = s.line := by
  simp [State.deliverReport]

@[simp] theorem State.deliverReport_host (s : State) (k : Slot) (x : StepReport) (y : Both ApproachReport) : (s.deliverReport k x y).host = s.host := by
  simp [State.deliverReport]

@[simp] theorem State.deliverReport_pending (s : State) (k : Slot) (x : StepReport) (y : Both ApproachReport) : (s.deliverReport k x y).pending = s.pending := by
  simp [State.deliverReport]

@[simp] theorem State.planArrived_corridor (s : State) (k : Slot) : (s.planArrived k).corridor = s.corridor := by
  unfold State.planArrived; dsimp only; split <;> simp

@[simp] theorem State.planArrived_clock (s : State) (k : Slot) : (s.planArrived k).clock = s.clock := by
  unfold State.planArrived; dsimp only; split <;> simp

@[simp] theorem State.planArrived_plans (s : State) (k : Slot) : (s.planArrived k).plans = s.plans := by
  unfold State.planArrived; dsimp only; split <;> simp

@[simp] theorem State.planArrived_flow (s : State) (k : Slot) : (s.planArrived k).flow = s.flow := by
  unfold State.planArrived; dsimp only; split <;> simp

@[simp] theorem State.planArrived_engine (s : State) (k : Slot) : (s.planArrived k).engine = s.engine := by
  unfold State.planArrived; dsimp only; split <;> simp

@[simp] theorem State.planArrived_transition (s : State) (k : Slot) : (s.planArrived k).transition = s.transition := by
  unfold State.planArrived; dsimp only; split <;> simp

@[simp] theorem State.planArrived_directory (s : State) (k : Slot) : (s.planArrived k).directory = s.directory := by
  unfold State.planArrived; dsimp only; split <;> simp

@[simp] theorem State.planArrived_line (s : State) (k : Slot) : (s.planArrived k).line = s.line := by
  unfold State.planArrived; dsimp only; split <;> simp

@[simp] theorem State.planArrived_host (s : State) (k : Slot) : (s.planArrived k).host = s.host := by
  unfold State.planArrived; dsimp only; split <;> simp

@[simp] theorem State.planArrived_free (s : State) (k : Slot) : (s.planArrived k).free = s.free := by
  unfold State.planArrived; dsimp only; split <;> simp

@[simp] theorem State.planArrived_pending (s : State) (k : Slot) : (s.planArrived k).pending = s.pending := by
  unfold State.planArrived; dsimp only; split <;> simp


/-! ### Flow Estimator and Progression Engine -/

@[simp] theorem State.closeFlow_corridor (s : State)  : (s.closeFlow).corridor = s.corridor := by
  simp [State.closeFlow]

@[simp] theorem State.closeFlow_clock (s : State)  : (s.closeFlow).clock = s.clock := by
  simp [State.closeFlow]

@[simp] theorem State.closeFlow_plans (s : State)  : (s.closeFlow).plans = s.plans := by
  simp [State.closeFlow]

@[simp] theorem State.closeFlow_engine (s : State)  : (s.closeFlow).engine = s.engine := by
  simp [State.closeFlow]

@[simp] theorem State.closeFlow_transition (s : State)  : (s.closeFlow).transition = s.transition := by
  simp [State.closeFlow]

@[simp] theorem State.closeFlow_monitor (s : State)  : (s.closeFlow).monitor = s.monitor := by
  simp [State.closeFlow]

@[simp] theorem State.closeFlow_directory (s : State)  : (s.closeFlow).directory = s.directory := by
  simp [State.closeFlow]

@[simp] theorem State.closeFlow_line (s : State)  : (s.closeFlow).line = s.line := by
  simp [State.closeFlow]

@[simp] theorem State.closeFlow_host (s : State)  : (s.closeFlow).host = s.host := by
  simp [State.closeFlow]

@[simp] theorem State.closeFlow_free (s : State)  : (s.closeFlow).free = s.free := by
  simp [State.closeFlow]

@[simp] theorem State.closeFlow_pending (s : State)  : (s.closeFlow).pending = s.pending := by
  simp [State.closeFlow]

@[simp] theorem State.handOver_corridor (s : State)  : (s.handOver).corridor = s.corridor := by
  unfold State.handOver; split <;> simp

@[simp] theorem State.handOver_clock (s : State)  : (s.handOver).clock = s.clock := by
  unfold State.handOver; split <;> simp

@[simp] theorem State.handOver_plans (s : State)  : (s.handOver).plans = s.plans := by
  unfold State.handOver; split <;> simp

@[simp] theorem State.handOver_flow (s : State)  : (s.handOver).flow = s.flow := by
  unfold State.handOver; split <;> simp

@[simp] theorem State.handOver_transition (s : State)  : (s.handOver).transition = s.transition := by
  unfold State.handOver; split <;> simp

@[simp] theorem State.handOver_monitor (s : State)  : (s.handOver).monitor = s.monitor := by
  unfold State.handOver; split <;> simp

@[simp] theorem State.handOver_directory (s : State)  : (s.handOver).directory = s.directory := by
  unfold State.handOver; split <;> simp

@[simp] theorem State.handOver_line (s : State)  : (s.handOver).line = s.line := by
  unfold State.handOver; split <;> simp

@[simp] theorem State.handOver_host (s : State)  : (s.handOver).host = s.host := by
  unfold State.handOver; split <;> simp

@[simp] theorem State.handOver_notices (s : State)  : (s.handOver).notices = s.notices := by
  unfold State.handOver; split <;> simp

@[simp] theorem State.handOver_free (s : State)  : (s.handOver).free = s.free := by
  unfold State.handOver; split <;> simp

@[simp] theorem State.handOver_pending (s : State)  : (s.handOver).pending = s.pending := by
  unfold State.handOver; split <;> simp


/-! ### Directory Unit -/

@[simp] theorem State.addOrder_corridor (s : State) (k : Slot) (p : PlanNo) : (s.addOrder k p).corridor = s.corridor := by
  simp [State.addOrder]

@[simp] theorem State.addOrder_clock (s : State) (k : Slot) (p : PlanNo) : (s.addOrder k p).clock = s.clock := by
  simp [State.addOrder]

@[simp] theorem State.addOrder_plans (s : State) (k : Slot) (p : PlanNo) : (s.addOrder k p).plans = s.plans := by
  simp [State.addOrder]

@[simp] theorem State.addOrder_flow (s : State) (k : Slot) (p : PlanNo) : (s.addOrder k p).flow = s.flow := by
  simp [State.addOrder]

@[simp] theorem State.addOrder_engine (s : State) (k : Slot) (p : PlanNo) : (s.addOrder k p).engine = s.engine := by
  simp [State.addOrder]

@[simp] theorem State.addOrder_transition (s : State) (k : Slot) (p : PlanNo) : (s.addOrder k p).transition = s.transition := by
  simp [State.addOrder]

@[simp] theorem State.addOrder_monitor (s : State) (k : Slot) (p : PlanNo) : (s.addOrder k p).monitor = s.monitor := by
  simp [State.addOrder]

@[simp] theorem State.addOrder_line (s : State) (k : Slot) (p : PlanNo) : (s.addOrder k p).line = s.line := by
  simp [State.addOrder]

@[simp] theorem State.addOrder_host (s : State) (k : Slot) (p : PlanNo) : (s.addOrder k p).host = s.host := by
  simp [State.addOrder]

@[simp] theorem State.addOrder_notices (s : State) (k : Slot) (p : PlanNo) : (s.addOrder k p).notices = s.notices := by
  simp [State.addOrder]

@[simp] theorem State.addOrder_free (s : State) (k : Slot) (p : PlanNo) : (s.addOrder k p).free = s.free := by
  simp [State.addOrder]

@[simp] theorem State.addOrder_pending (s : State) (k : Slot) (p : PlanNo) : (s.addOrder k p).pending = s.pending := by
  simp [State.addOrder]

@[simp] theorem State.createFor_corridor (s : State) (want : State → Slot → Bool) (p : PlanNo) : (s.createFor want p).corridor = s.corridor := by
  unfold State.createFor
  refine foldl_keeps State.corridor _ (fun s k => ?_) _ _
  split <;> simp

@[simp] theorem State.createFor_clock (s : State) (want : State → Slot → Bool) (p : PlanNo) : (s.createFor want p).clock = s.clock := by
  unfold State.createFor
  refine foldl_keeps State.clock _ (fun s k => ?_) _ _
  split <;> simp

@[simp] theorem State.createFor_plans (s : State) (want : State → Slot → Bool) (p : PlanNo) : (s.createFor want p).plans = s.plans := by
  unfold State.createFor
  refine foldl_keeps State.plans _ (fun s k => ?_) _ _
  split <;> simp

@[simp] theorem State.createFor_flow (s : State) (want : State → Slot → Bool) (p : PlanNo) : (s.createFor want p).flow = s.flow := by
  unfold State.createFor
  refine foldl_keeps State.flow _ (fun s k => ?_) _ _
  split <;> simp

@[simp] theorem State.createFor_engine (s : State) (want : State → Slot → Bool) (p : PlanNo) : (s.createFor want p).engine = s.engine := by
  unfold State.createFor
  refine foldl_keeps State.engine _ (fun s k => ?_) _ _
  split <;> simp

@[simp] theorem State.createFor_transition (s : State) (want : State → Slot → Bool) (p : PlanNo) : (s.createFor want p).transition = s.transition := by
  unfold State.createFor
  refine foldl_keeps State.transition _ (fun s k => ?_) _ _
  split <;> simp

@[simp] theorem State.createFor_monitor (s : State) (want : State → Slot → Bool) (p : PlanNo) : (s.createFor want p).monitor = s.monitor := by
  unfold State.createFor
  refine foldl_keeps State.monitor _ (fun s k => ?_) _ _
  split <;> simp

@[simp] theorem State.createFor_line (s : State) (want : State → Slot → Bool) (p : PlanNo) : (s.createFor want p).line = s.line := by
  unfold State.createFor
  refine foldl_keeps State.line _ (fun s k => ?_) _ _
  split <;> simp

@[simp] theorem State.createFor_host (s : State) (want : State → Slot → Bool) (p : PlanNo) : (s.createFor want p).host = s.host := by
  unfold State.createFor
  refine foldl_keeps State.host _ (fun s k => ?_) _ _
  split <;> simp

@[simp] theorem State.createFor_notices (s : State) (want : State → Slot → Bool) (p : PlanNo) : (s.createFor want p).notices = s.notices := by
  unfold State.createFor
  refine foldl_keeps State.notices _ (fun s k => ?_) _ _
  split <;> simp

@[simp] theorem State.createFor_free (s : State) (want : State → Slot → Bool) (p : PlanNo) : (s.createFor want p).free = s.free := by
  unfold State.createFor
  refine foldl_keeps State.free _ (fun s k => ?_) _ _
  split <;> simp

@[simp] theorem State.createFor_pending (s : State) (want : State → Slot → Bool) (p : PlanNo) : (s.createFor want p).pending = s.pending := by
  unfold State.createFor
  refine foldl_keeps State.pending _ (fun s k => ?_) _ _
  split <;> simp

@[simp] theorem State.createOrders_corridor (s : State)  : (s.createOrders).corridor = s.corridor := by
  unfold State.createOrders
  refine foldl_keeps State.corridor _ (fun s k => ?_) _ _
  simp

@[simp] theorem State.createOrders_clock (s : State)  : (s.createOrders).clock = s.clock := by
  unfold State.createOrders
  refine foldl_keeps State.clock _ (fun s k => ?_) _ _
  simp

@[simp] theorem State.createOrders_plans (s : State)  : (s.createOrders).plans = s.plans := by
  unfold State.createOrders
  refine foldl_keeps State.plans _ (fun s k => ?_) _ _
  simp

@[simp] theorem State.createOrders_flow (s : State)  : (s.createOrders).flow = s.flow := by
  unfold State.createOrders
  refine foldl_keeps State.flow _ (fun s k => ?_) _ _
  simp

@[simp] theorem State.createOrders_engine (s : State)  : (s.createOrders).engine = s.engine := by
  unfold State.createOrders
  refine foldl_keeps State.engine _ (fun s k => ?_) _ _
  simp

@[simp] theorem State.createOrders_transition (s : State)  : (s.createOrders).transition = s.transition := by
  unfold State.createOrders
  refine foldl_keeps State.transition _ (fun s k => ?_) _ _
  simp

@[simp] theorem State.createOrders_monitor (s : State)  : (s.createOrders).monitor = s.monitor := by
  unfold State.createOrders
  refine foldl_keeps State.monitor _ (fun s k => ?_) _ _
  simp

@[simp] theorem State.createOrders_line (s : State)  : (s.createOrders).line = s.line := by
  unfold State.createOrders
  refine foldl_keeps State.line _ (fun s k => ?_) _ _
  simp

@[simp] theorem State.createOrders_host (s : State)  : (s.createOrders).host = s.host := by
  unfold State.createOrders
  refine foldl_keeps State.host _ (fun s k => ?_) _ _
  simp

@[simp] theorem State.createOrders_notices (s : State)  : (s.createOrders).notices = s.notices := by
  unfold State.createOrders
  refine foldl_keeps State.notices _ (fun s k => ?_) _ _
  simp

@[simp] theorem State.createOrders_free (s : State)  : (s.createOrders).free = s.free := by
  unfold State.createOrders
  refine foldl_keeps State.free _ (fun s k => ?_) _ _
  simp

@[simp] theorem State.createOrders_pending (s : State)  : (s.createOrders).pending = s.pending := by
  unfold State.createOrders
  refine foldl_keeps State.pending _ (fun s k => ?_) _ _
  simp

@[simp] theorem State.giveUp_corridor (s : State) (k : Slot) (p : PlanNo) (x : DirSlot) : (s.giveUp k p x).corridor = s.corridor := by
  unfold State.giveUp; repeat' split
  all_goals simp

@[simp] theorem State.giveUp_clock (s : State) (k : Slot) (p : PlanNo) (x : DirSlot) : (s.giveUp k p x).clock = s.clock := by
  unfold State.giveUp; repeat' split
  all_goals simp

@[simp] theorem State.giveUp_plans (s : State) (k : Slot) (p : PlanNo) (x : DirSlot) : (s.giveUp k p x).plans = s.plans := by
  unfold State.giveUp; repeat' split
  all_goals simp

@[simp] theorem State.giveUp_flow (s : State) (k : Slot) (p : PlanNo) (x : DirSlot) : (s.giveUp k p x).flow = s.flow := by
  unfold State.giveUp; repeat' split
  all_goals simp

@[simp] theorem State.giveUp_engine (s : State) (k : Slot) (p : PlanNo) (x : DirSlot) : (s.giveUp k p x).engine = s.engine := by
  unfold State.giveUp; repeat' split
  all_goals simp

@[simp] theorem State.giveUp_transition (s : State) (k : Slot) (p : PlanNo) (x : DirSlot) : (s.giveUp k p x).transition = s.transition := by
  unfold State.giveUp; repeat' split
  all_goals simp

@[simp] theorem State.giveUp_monitor (s : State) (k : Slot) (p : PlanNo) (x : DirSlot) : (s.giveUp k p x).monitor = s.monitor := by
  unfold State.giveUp; repeat' split
  all_goals simp

@[simp] theorem State.giveUp_host (s : State) (k : Slot) (p : PlanNo) (x : DirSlot) : (s.giveUp k p x).host = s.host := by
  unfold State.giveUp; repeat' split
  all_goals simp

@[simp] theorem State.giveUp_notices (s : State) (k : Slot) (p : PlanNo) (x : DirSlot) : (s.giveUp k p x).notices = s.notices := by
  unfold State.giveUp; repeat' split
  all_goals simp

@[simp] theorem State.giveUp_free (s : State) (k : Slot) (p : PlanNo) (x : DirSlot) : (s.giveUp k p x).free = s.free := by
  unfold State.giveUp; repeat' split
  all_goals simp

@[simp] theorem State.giveUp_pending (s : State) (k : Slot) (p : PlanNo) (x : DirSlot) : (s.giveUp k p x).pending = s.pending := by
  unfold State.giveUp; repeat' split
  all_goals simp

@[simp] theorem State.tellArrivals_corridor (s : State) (old : DirectoryUnit) :
    (s.tellArrivals old).corridor = s.corridor := by
  unfold State.tellArrivals
  split
  · rfl
  · exact foldl_keeps State.corridor _ (fun t k => by split <;> simp) _ s

@[simp] theorem State.tellArrivals_clock (s : State) (old : DirectoryUnit) :
    (s.tellArrivals old).clock = s.clock := by
  unfold State.tellArrivals
  split
  · rfl
  · exact foldl_keeps State.clock _ (fun t k => by split <;> simp) _ s

@[simp] theorem State.tellArrivals_plans (s : State) (old : DirectoryUnit) :
    (s.tellArrivals old).plans = s.plans := by
  unfold State.tellArrivals
  split
  · rfl
  · exact foldl_keeps State.plans _ (fun t k => by split <;> simp) _ s

@[simp] theorem State.tellArrivals_flow (s : State) (old : DirectoryUnit) :
    (s.tellArrivals old).flow = s.flow := by
  unfold State.tellArrivals
  split
  · rfl
  · exact foldl_keeps State.flow _ (fun t k => by split <;> simp) _ s

@[simp] theorem State.tellArrivals_engine (s : State) (old : DirectoryUnit) :
    (s.tellArrivals old).engine = s.engine := by
  unfold State.tellArrivals
  split
  · rfl
  · exact foldl_keeps State.engine _ (fun t k => by split <;> simp) _ s

@[simp] theorem State.tellArrivals_transition (s : State) (old : DirectoryUnit) :
    (s.tellArrivals old).transition = s.transition := by
  unfold State.tellArrivals
  split
  · rfl
  · exact foldl_keeps State.transition _ (fun t k => by split <;> simp) _ s

@[simp] theorem State.tellArrivals_directory (s : State) (old : DirectoryUnit) :
    (s.tellArrivals old).directory = s.directory := by
  unfold State.tellArrivals
  split
  · rfl
  · exact foldl_keeps State.directory _ (fun t k => by split <;> simp) _ s

@[simp] theorem State.tellArrivals_line (s : State) (old : DirectoryUnit) :
    (s.tellArrivals old).line = s.line := by
  unfold State.tellArrivals
  split
  · rfl
  · exact foldl_keeps State.line _ (fun t k => by split <;> simp) _ s

@[simp] theorem State.tellArrivals_host (s : State) (old : DirectoryUnit) :
    (s.tellArrivals old).host = s.host := by
  unfold State.tellArrivals
  split
  · rfl
  · exact foldl_keeps State.host _ (fun t k => by split <;> simp) _ s

@[simp] theorem State.tellArrivals_free (s : State) (old : DirectoryUnit) :
    (s.tellArrivals old).free = s.free := by
  unfold State.tellArrivals
  split
  · rfl
  · exact foldl_keeps State.free _ (fun t k => by split <;> simp) _ s

@[simp] theorem State.tellArrivals_pending (s : State) (old : DirectoryUnit) :
    (s.tellArrivals old).pending = s.pending := by
  unfold State.tellArrivals
  split
  · rfl
  · exact foldl_keeps State.pending _ (fun t k => by split <;> simp) _ s

/-- With nobody to tell, nothing changes: the junctions that hold the active plan held it before (R118). -/
theorem State.tellArrivals_none {s : State} {old : DirectoryUnit}
    (h : ∀ p k, s.directory.active = some p → old.lacks k p = true → s.directory.lacks k p = true) :
    s.tellArrivals old = s := by
  unfold State.tellArrivals
  split
  · rfl
  · rename_i p hp
    refine foldl_keeps id _ (fun t k => ?_) _ s
    cases ho : old.lacks k p <;> simp [h p k hp, ho]

@[simp] theorem State.withdraw_corridor (s : State) (o : Order) : (s.withdraw o).corridor = s.corridor := by
  simp [State.withdraw]

@[simp] theorem State.withdraw_clock (s : State) (o : Order) : (s.withdraw o).clock = s.clock := by
  simp [State.withdraw]

@[simp] theorem State.withdraw_plans (s : State) (o : Order) : (s.withdraw o).plans = s.plans := by
  simp [State.withdraw]

@[simp] theorem State.withdraw_flow (s : State) (o : Order) : (s.withdraw o).flow = s.flow := by
  simp [State.withdraw]

@[simp] theorem State.withdraw_engine (s : State) (o : Order) : (s.withdraw o).engine = s.engine := by
  simp [State.withdraw]

@[simp] theorem State.withdraw_transition (s : State) (o : Order) : (s.withdraw o).transition = s.transition := by
  simp [State.withdraw]

@[simp] theorem State.withdraw_monitor (s : State) (o : Order) : (s.withdraw o).monitor = s.monitor := by
  simp [State.withdraw]

@[simp] theorem State.withdraw_host (s : State) (o : Order) : (s.withdraw o).host = s.host := by
  simp [State.withdraw]

@[simp] theorem State.withdraw_notices (s : State) (o : Order) : (s.withdraw o).notices = s.notices := by
  simp [State.withdraw]

@[simp] theorem State.withdraw_free (s : State) (o : Order) : (s.withdraw o).free = s.free := by
  simp [State.withdraw]

@[simp] theorem State.withdraw_pending (s : State) (o : Order) : (s.withdraw o).pending = s.pending := by
  simp [State.withdraw]

@[simp] theorem State.withdrawAll_corridor (s : State) (which : Order → Bool) : (s.withdrawAll which).corridor = s.corridor := by
  unfold State.withdrawAll
  refine foldl_keeps State.corridor _ (fun s o => ?_) _ _
  split <;> simp

@[simp] theorem State.withdrawAll_clock (s : State) (which : Order → Bool) : (s.withdrawAll which).clock = s.clock := by
  unfold State.withdrawAll
  refine foldl_keeps State.clock _ (fun s o => ?_) _ _
  split <;> simp

@[simp] theorem State.withdrawAll_plans (s : State) (which : Order → Bool) : (s.withdrawAll which).plans = s.plans := by
  unfold State.withdrawAll
  refine foldl_keeps State.plans _ (fun s o => ?_) _ _
  split <;> simp

@[simp] theorem State.withdrawAll_flow (s : State) (which : Order → Bool) : (s.withdrawAll which).flow = s.flow := by
  unfold State.withdrawAll
  refine foldl_keeps State.flow _ (fun s o => ?_) _ _
  split <;> simp

@[simp] theorem State.withdrawAll_engine (s : State) (which : Order → Bool) : (s.withdrawAll which).engine = s.engine := by
  unfold State.withdrawAll
  refine foldl_keeps State.engine _ (fun s o => ?_) _ _
  split <;> simp

@[simp] theorem State.withdrawAll_transition (s : State) (which : Order → Bool) : (s.withdrawAll which).transition = s.transition := by
  unfold State.withdrawAll
  refine foldl_keeps State.transition _ (fun s o => ?_) _ _
  split <;> simp

@[simp] theorem State.withdrawAll_monitor (s : State) (which : Order → Bool) : (s.withdrawAll which).monitor = s.monitor := by
  unfold State.withdrawAll
  refine foldl_keeps State.monitor _ (fun s o => ?_) _ _
  split <;> simp

@[simp] theorem State.withdrawAll_host (s : State) (which : Order → Bool) : (s.withdrawAll which).host = s.host := by
  unfold State.withdrawAll
  refine foldl_keeps State.host _ (fun s o => ?_) _ _
  split <;> simp

@[simp] theorem State.withdrawAll_notices (s : State) (which : Order → Bool) : (s.withdrawAll which).notices = s.notices := by
  unfold State.withdrawAll
  refine foldl_keeps State.notices _ (fun s o => ?_) _ _
  split <;> simp

@[simp] theorem State.withdrawAll_free (s : State) (which : Order → Bool) : (s.withdrawAll which).free = s.free := by
  unfold State.withdrawAll
  refine foldl_keeps State.free _ (fun s o => ?_) _ _
  split <;> simp

@[simp] theorem State.withdrawAll_pending (s : State) (which : Order → Bool) : (s.withdrawAll which).pending = s.pending := by
  unfold State.withdrawAll
  refine foldl_keeps State.pending _ (fun s o => ?_) _ _
  split <;> simp

@[simp] theorem State.queueFrame_corridor (s : State) (o : Order) (x : DirSlot) (c : LoadContent) : (s.queueFrame o x c).corridor = s.corridor := by
  simp [State.queueFrame]

@[simp] theorem State.queueFrame_clock (s : State) (o : Order) (x : DirSlot) (c : LoadContent) : (s.queueFrame o x c).clock = s.clock := by
  simp [State.queueFrame]

@[simp] theorem State.queueFrame_plans (s : State) (o : Order) (x : DirSlot) (c : LoadContent) : (s.queueFrame o x c).plans = s.plans := by
  simp [State.queueFrame]

@[simp] theorem State.queueFrame_flow (s : State) (o : Order) (x : DirSlot) (c : LoadContent) : (s.queueFrame o x c).flow = s.flow := by
  simp [State.queueFrame]

@[simp] theorem State.queueFrame_engine (s : State) (o : Order) (x : DirSlot) (c : LoadContent) : (s.queueFrame o x c).engine = s.engine := by
  simp [State.queueFrame]

@[simp] theorem State.queueFrame_transition (s : State) (o : Order) (x : DirSlot) (c : LoadContent) : (s.queueFrame o x c).transition = s.transition := by
  simp [State.queueFrame]

@[simp] theorem State.queueFrame_monitor (s : State) (o : Order) (x : DirSlot) (c : LoadContent) : (s.queueFrame o x c).monitor = s.monitor := by
  simp [State.queueFrame]

@[simp] theorem State.queueFrame_host (s : State) (o : Order) (x : DirSlot) (c : LoadContent) : (s.queueFrame o x c).host = s.host := by
  simp [State.queueFrame]

@[simp] theorem State.queueFrame_notices (s : State) (o : Order) (x : DirSlot) (c : LoadContent) : (s.queueFrame o x c).notices = s.notices := by
  simp [State.queueFrame]

@[simp] theorem State.queueFrame_free (s : State) (o : Order) (x : DirSlot) (c : LoadContent) : (s.queueFrame o x c).free = s.free := by
  simp [State.queueFrame]

@[simp] theorem State.queueFrame_pending (s : State) (o : Order) (x : DirSlot) (c : LoadContent) : (s.queueFrame o x c).pending = s.pending := by
  simp [State.queueFrame]

@[simp] theorem State.firstQueuing_corridor (s : State) (o : Order) (x : DirSlot) : (s.firstQueuing o x).corridor = s.corridor := by
  simp [State.firstQueuing]

@[simp] theorem State.firstQueuing_clock (s : State) (o : Order) (x : DirSlot) : (s.firstQueuing o x).clock = s.clock := by
  simp [State.firstQueuing]

@[simp] theorem State.firstQueuing_plans (s : State) (o : Order) (x : DirSlot) : (s.firstQueuing o x).plans = s.plans := by
  simp [State.firstQueuing]

@[simp] theorem State.firstQueuing_flow (s : State) (o : Order) (x : DirSlot) : (s.firstQueuing o x).flow = s.flow := by
  simp [State.firstQueuing]

@[simp] theorem State.firstQueuing_engine (s : State) (o : Order) (x : DirSlot) : (s.firstQueuing o x).engine = s.engine := by
  simp [State.firstQueuing]

@[simp] theorem State.firstQueuing_transition (s : State) (o : Order) (x : DirSlot) : (s.firstQueuing o x).transition = s.transition := by
  simp [State.firstQueuing]

@[simp] theorem State.firstQueuing_monitor (s : State) (o : Order) (x : DirSlot) : (s.firstQueuing o x).monitor = s.monitor := by
  simp [State.firstQueuing]

@[simp] theorem State.firstQueuing_host (s : State) (o : Order) (x : DirSlot) : (s.firstQueuing o x).host = s.host := by
  simp [State.firstQueuing]

@[simp] theorem State.firstQueuing_notices (s : State) (o : Order) (x : DirSlot) : (s.firstQueuing o x).notices = s.notices := by
  simp [State.firstQueuing]

@[simp] theorem State.firstQueuing_pending (s : State) (o : Order) (x : DirSlot) : (s.firstQueuing o x).pending = s.pending := by
  simp [State.firstQueuing]

theorem State.feedOnce_corridor {s t : State} (h : s.feedOnce = some t) : t.corridor = s.corridor := by
  unfold State.feedOnce at h
  repeat' split at h
  all_goals (cases h <;> simp)

theorem State.feedOnce_clock {s t : State} (h : s.feedOnce = some t) : t.clock = s.clock := by
  unfold State.feedOnce at h
  repeat' split at h
  all_goals (cases h <;> simp)

theorem State.feedOnce_plans {s t : State} (h : s.feedOnce = some t) : t.plans = s.plans := by
  unfold State.feedOnce at h
  repeat' split at h
  all_goals (cases h <;> simp)

theorem State.feedOnce_flow {s t : State} (h : s.feedOnce = some t) : t.flow = s.flow := by
  unfold State.feedOnce at h
  repeat' split at h
  all_goals (cases h <;> simp)

theorem State.feedOnce_engine {s t : State} (h : s.feedOnce = some t) : t.engine = s.engine := by
  unfold State.feedOnce at h
  repeat' split at h
  all_goals (cases h <;> simp)

theorem State.feedOnce_transition {s t : State} (h : s.feedOnce = some t) : t.transition = s.transition := by
  unfold State.feedOnce at h
  repeat' split at h
  all_goals (cases h <;> simp)

theorem State.feedOnce_monitor {s t : State} (h : s.feedOnce = some t) : t.monitor = s.monitor := by
  unfold State.feedOnce at h
  repeat' split at h
  all_goals (cases h <;> simp)

theorem State.feedOnce_host {s t : State} (h : s.feedOnce = some t) : t.host = s.host := by
  unfold State.feedOnce at h
  repeat' split at h
  all_goals (cases h <;> simp)

theorem State.feedOnce_notices {s t : State} (h : s.feedOnce = some t) : t.notices = s.notices := by
  unfold State.feedOnce at h
  repeat' split at h
  all_goals (cases h <;> simp)

theorem State.feedOnce_pending {s t : State} (h : s.feedOnce = some t) : t.pending = s.pending := by
  unfold State.feedOnce at h
  repeat' split at h
  all_goals (cases h <;> simp)

theorem State.feedLoop_corridor (n : Nat) (s : State) : (s.feedLoop n).corridor = s.corridor := by
  induction n generalizing s with
  | zero => rfl
  | succ n ih =>
    unfold State.feedLoop
    split
    · rfl
    · rename_i t h; rw [ih, State.feedOnce_corridor h]

theorem State.feedLoop_clock (n : Nat) (s : State) : (s.feedLoop n).clock = s.clock := by
  induction n generalizing s with
  | zero => rfl
  | succ n ih =>
    unfold State.feedLoop
    split
    · rfl
    · rename_i t h; rw [ih, State.feedOnce_clock h]

theorem State.feedLoop_plans (n : Nat) (s : State) : (s.feedLoop n).plans = s.plans := by
  induction n generalizing s with
  | zero => rfl
  | succ n ih =>
    unfold State.feedLoop
    split
    · rfl
    · rename_i t h; rw [ih, State.feedOnce_plans h]

theorem State.feedLoop_flow (n : Nat) (s : State) : (s.feedLoop n).flow = s.flow := by
  induction n generalizing s with
  | zero => rfl
  | succ n ih =>
    unfold State.feedLoop
    split
    · rfl
    · rename_i t h; rw [ih, State.feedOnce_flow h]

theorem State.feedLoop_engine (n : Nat) (s : State) : (s.feedLoop n).engine = s.engine := by
  induction n generalizing s with
  | zero => rfl
  | succ n ih =>
    unfold State.feedLoop
    split
    · rfl
    · rename_i t h; rw [ih, State.feedOnce_engine h]

theorem State.feedLoop_transition (n : Nat) (s : State) : (s.feedLoop n).transition = s.transition := by
  induction n generalizing s with
  | zero => rfl
  | succ n ih =>
    unfold State.feedLoop
    split
    · rfl
    · rename_i t h; rw [ih, State.feedOnce_transition h]

theorem State.feedLoop_monitor (n : Nat) (s : State) : (s.feedLoop n).monitor = s.monitor := by
  induction n generalizing s with
  | zero => rfl
  | succ n ih =>
    unfold State.feedLoop
    split
    · rfl
    · rename_i t h; rw [ih, State.feedOnce_monitor h]

theorem State.feedLoop_host (n : Nat) (s : State) : (s.feedLoop n).host = s.host := by
  induction n generalizing s with
  | zero => rfl
  | succ n ih =>
    unfold State.feedLoop
    split
    · rfl
    · rename_i t h; rw [ih, State.feedOnce_host h]

theorem State.feedLoop_notices (n : Nat) (s : State) : (s.feedLoop n).notices = s.notices := by
  induction n generalizing s with
  | zero => rfl
  | succ n ih =>
    unfold State.feedLoop
    split
    · rfl
    · rename_i t h; rw [ih, State.feedOnce_notices h]

theorem State.feedLoop_pending (n : Nat) (s : State) : (s.feedLoop n).pending = s.pending := by
  induction n generalizing s with
  | zero => rfl
  | succ n ih =>
    unfold State.feedLoop
    split
    · rfl
    · rename_i t h; rw [ih, State.feedOnce_pending h]

@[simp] theorem State.feed_corridor (s : State)  : (s.feed).corridor = s.corridor := by
  exact State.feedLoop_corridor _ _

@[simp] theorem State.feed_clock (s : State)  : (s.feed).clock = s.clock := by
  exact State.feedLoop_clock _ _

@[simp] theorem State.feed_plans (s : State)  : (s.feed).plans = s.plans := by
  exact State.feedLoop_plans _ _

@[simp] theorem State.feed_flow (s : State)  : (s.feed).flow = s.flow := by
  exact State.feedLoop_flow _ _

@[simp] theorem State.feed_engine (s : State)  : (s.feed).engine = s.engine := by
  exact State.feedLoop_engine _ _

@[simp] theorem State.feed_transition (s : State)  : (s.feed).transition = s.transition := by
  exact State.feedLoop_transition _ _

@[simp] theorem State.feed_monitor (s : State)  : (s.feed).monitor = s.monitor := by
  exact State.feedLoop_monitor _ _

@[simp] theorem State.feed_host (s : State)  : (s.feed).host = s.host := by
  exact State.feedLoop_host _ _

@[simp] theorem State.feed_notices (s : State)  : (s.feed).notices = s.notices := by
  exact State.feedLoop_notices _ _

@[simp] theorem State.feed_pending (s : State)  : (s.feed).pending = s.pending := by
  exact State.feedLoop_pending _ _

@[simp] theorem State.completeLoad_corridor (s : State) (o : Order) (x : DirSlot) : (s.completeLoad o x).corridor = s.corridor := by
  unfold State.completeLoad; dsimp only; repeat' split
  all_goals simp

@[simp] theorem State.completeLoad_clock (s : State) (o : Order) (x : DirSlot) : (s.completeLoad o x).clock = s.clock := by
  unfold State.completeLoad; dsimp only; repeat' split
  all_goals simp

@[simp] theorem State.completeLoad_plans (s : State) (o : Order) (x : DirSlot) : (s.completeLoad o x).plans = s.plans := by
  unfold State.completeLoad; dsimp only; repeat' split
  all_goals simp

@[simp] theorem State.completeLoad_flow (s : State) (o : Order) (x : DirSlot) : (s.completeLoad o x).flow = s.flow := by
  unfold State.completeLoad; dsimp only; repeat' split
  all_goals simp

@[simp] theorem State.completeLoad_engine (s : State) (o : Order) (x : DirSlot) : (s.completeLoad o x).engine = s.engine := by
  unfold State.completeLoad; dsimp only; repeat' split
  all_goals simp

@[simp] theorem State.completeLoad_transition (s : State) (o : Order) (x : DirSlot) : (s.completeLoad o x).transition = s.transition := by
  unfold State.completeLoad; dsimp only; repeat' split
  all_goals simp

@[simp] theorem State.completeLoad_line (s : State) (o : Order) (x : DirSlot) : (s.completeLoad o x).line = s.line := by
  unfold State.completeLoad; dsimp only; repeat' split
  all_goals simp

@[simp] theorem State.completeLoad_host (s : State) (o : Order) (x : DirSlot) : (s.completeLoad o x).host = s.host := by
  unfold State.completeLoad; dsimp only; repeat' split
  all_goals simp

@[simp] theorem State.completeLoad_free (s : State) (o : Order) (x : DirSlot) : (s.completeLoad o x).free = s.free := by
  unfold State.completeLoad; dsimp only; repeat' split
  all_goals simp

@[simp] theorem State.completeLoad_pending (s : State) (o : Order) (x : DirSlot) : (s.completeLoad o x).pending = s.pending := by
  unfold State.completeLoad; dsimp only; repeat' split
  all_goals simp

@[simp] theorem State.failLoad_corridor (s : State) (o : Order) (x : DirSlot) (b : Bool) : (s.failLoad o x b).corridor = s.corridor := by
  unfold State.failLoad; dsimp only; repeat' split
  all_goals simp

@[simp] theorem State.failLoad_clock (s : State) (o : Order) (x : DirSlot) (b : Bool) : (s.failLoad o x b).clock = s.clock := by
  unfold State.failLoad; dsimp only; repeat' split
  all_goals simp

@[simp] theorem State.failLoad_plans (s : State) (o : Order) (x : DirSlot) (b : Bool) : (s.failLoad o x b).plans = s.plans := by
  unfold State.failLoad; dsimp only; repeat' split
  all_goals simp

@[simp] theorem State.failLoad_flow (s : State) (o : Order) (x : DirSlot) (b : Bool) : (s.failLoad o x b).flow = s.flow := by
  unfold State.failLoad; dsimp only; repeat' split
  all_goals simp

@[simp] theorem State.failLoad_engine (s : State) (o : Order) (x : DirSlot) (b : Bool) : (s.failLoad o x b).engine = s.engine := by
  unfold State.failLoad; dsimp only; repeat' split
  all_goals simp

@[simp] theorem State.failLoad_transition (s : State) (o : Order) (x : DirSlot) (b : Bool) : (s.failLoad o x b).transition = s.transition := by
  unfold State.failLoad; dsimp only; repeat' split
  all_goals simp

@[simp] theorem State.failLoad_monitor (s : State) (o : Order) (x : DirSlot) (b : Bool) : (s.failLoad o x b).monitor = s.monitor := by
  unfold State.failLoad; dsimp only; repeat' split
  all_goals simp

@[simp] theorem State.failLoad_line (s : State) (o : Order) (x : DirSlot) (b : Bool) : (s.failLoad o x b).line = s.line := by
  unfold State.failLoad; dsimp only; repeat' split
  all_goals simp

@[simp] theorem State.failLoad_host (s : State) (o : Order) (x : DirSlot) (b : Bool) : (s.failLoad o x b).host = s.host := by
  unfold State.failLoad; dsimp only; repeat' split
  all_goals simp

@[simp] theorem State.failLoad_free (s : State) (o : Order) (x : DirSlot) (b : Bool) : (s.failLoad o x b).free = s.free := by
  unfold State.failLoad; dsimp only; repeat' split
  all_goals simp

@[simp] theorem State.failLoad_pending (s : State) (o : Order) (x : DirSlot) (b : Bool) : (s.failLoad o x b).pending = s.pending := by
  unfold State.failLoad; dsimp only; repeat' split
  all_goals simp

@[simp] theorem State.resolveLoad_corridor (s : State) (k : Slot) (r : LoadOutcome) : (s.resolveLoad k r).corridor = s.corridor := by
  unfold State.resolveLoad; repeat' split
  all_goals simp

@[simp] theorem State.resolveLoad_clock (s : State) (k : Slot) (r : LoadOutcome) : (s.resolveLoad k r).clock = s.clock := by
  unfold State.resolveLoad; repeat' split
  all_goals simp

@[simp] theorem State.resolveLoad_plans (s : State) (k : Slot) (r : LoadOutcome) : (s.resolveLoad k r).plans = s.plans := by
  unfold State.resolveLoad; repeat' split
  all_goals simp

@[simp] theorem State.resolveLoad_flow (s : State) (k : Slot) (r : LoadOutcome) : (s.resolveLoad k r).flow = s.flow := by
  unfold State.resolveLoad; repeat' split
  all_goals simp

@[simp] theorem State.resolveLoad_engine (s : State) (k : Slot) (r : LoadOutcome) : (s.resolveLoad k r).engine = s.engine := by
  unfold State.resolveLoad; repeat' split
  all_goals simp

@[simp] theorem State.resolveLoad_transition (s : State) (k : Slot) (r : LoadOutcome) : (s.resolveLoad k r).transition = s.transition := by
  unfold State.resolveLoad; repeat' split
  all_goals simp

@[simp] theorem State.resolveLoad_host (s : State) (k : Slot) (r : LoadOutcome) : (s.resolveLoad k r).host = s.host := by
  unfold State.resolveLoad; repeat' split
  all_goals simp

@[simp] theorem State.resolveLoad_pending (s : State) (k : Slot) (r : LoadOutcome) : (s.resolveLoad k r).pending = s.pending := by
  unfold State.resolveLoad; repeat' split
  all_goals simp


/-! ### Line Controller -/

@[simp] theorem State.sweepComplete_corridor (s : State)  : (s.sweepComplete).corridor = s.corridor := by
  simp [State.sweepComplete]

@[simp] theorem State.sweepComplete_clock (s : State)  : (s.sweepComplete).clock = s.clock := by
  simp [State.sweepComplete]

@[simp] theorem State.sweepComplete_plans (s : State)  : (s.sweepComplete).plans = s.plans := by
  simp [State.sweepComplete]

@[simp] theorem State.sweepComplete_transition (s : State)  : (s.sweepComplete).transition = s.transition := by
  simp [State.sweepComplete]

@[simp] theorem State.sweepComplete_monitor (s : State)  : (s.sweepComplete).monitor = s.monitor := by
  simp [State.sweepComplete]

@[simp] theorem State.sweepComplete_host (s : State)  : (s.sweepComplete).host = s.host := by
  simp [State.sweepComplete]

@[simp] theorem State.sweepComplete_pending (s : State)  : (s.sweepComplete).pending = s.pending := by
  simp [State.sweepComplete]

@[simp] theorem State.slotResolved_corridor (s : State)  : (s.slotResolved).corridor = s.corridor := by
  unfold State.slotResolved; repeat' split
  all_goals simp

@[simp] theorem State.slotResolved_clock (s : State)  : (s.slotResolved).clock = s.clock := by
  unfold State.slotResolved; repeat' split
  all_goals simp

@[simp] theorem State.slotResolved_plans (s : State)  : (s.slotResolved).plans = s.plans := by
  unfold State.slotResolved; repeat' split
  all_goals simp

@[simp] theorem State.slotResolved_transition (s : State)  : (s.slotResolved).transition = s.transition := by
  unfold State.slotResolved; repeat' split
  all_goals simp

@[simp] theorem State.slotResolved_monitor (s : State)  : (s.slotResolved).monitor = s.monitor := by
  unfold State.slotResolved; repeat' split
  all_goals simp

@[simp] theorem State.slotResolved_host (s : State)  : (s.slotResolved).host = s.host := by
  unfold State.slotResolved; repeat' split
  all_goals simp

@[simp] theorem State.slotResolved_pending (s : State)  : (s.slotResolved).pending = s.pending := by
  unfold State.slotResolved; repeat' split
  all_goals simp

@[simp] theorem State.pollFailed_corridor (s : State) (k : Slot) (n : Nat) : (s.pollFailed k n).corridor = s.corridor := by
  unfold State.pollFailed; repeat' split
  all_goals simp

@[simp] theorem State.pollFailed_clock (s : State) (k : Slot) (n : Nat) : (s.pollFailed k n).clock = s.clock := by
  unfold State.pollFailed; repeat' split
  all_goals simp

@[simp] theorem State.pollFailed_plans (s : State) (k : Slot) (n : Nat) : (s.pollFailed k n).plans = s.plans := by
  unfold State.pollFailed; repeat' split
  all_goals simp

@[simp] theorem State.pollFailed_host (s : State) (k : Slot) (n : Nat) : (s.pollFailed k n).host = s.host := by
  unfold State.pollFailed; repeat' split
  all_goals simp

@[simp] theorem State.pollFailed_pending (s : State) (k : Slot) (n : Nat) : (s.pollFailed k n).pending = s.pending := by
  unfold State.pollFailed; repeat' split
  all_goals simp

@[simp] theorem State.pollOutcome_corridor (s : State) (k : Slot) (n : Nat) (r : ExchangeEnd) : (s.pollOutcome k n r).corridor = s.corridor := by
  unfold State.pollOutcome; repeat' split
  all_goals simp

@[simp] theorem State.pollOutcome_clock (s : State) (k : Slot) (n : Nat) (r : ExchangeEnd) : (s.pollOutcome k n r).clock = s.clock := by
  unfold State.pollOutcome; repeat' split
  all_goals simp

@[simp] theorem State.pollOutcome_plans (s : State) (k : Slot) (n : Nat) (r : ExchangeEnd) : (s.pollOutcome k n r).plans = s.plans := by
  unfold State.pollOutcome; repeat' split
  all_goals simp

@[simp] theorem State.pollOutcome_host (s : State) (k : Slot) (n : Nat) (r : ExchangeEnd) : (s.pollOutcome k n r).host = s.host := by
  unfold State.pollOutcome; repeat' split
  all_goals simp

@[simp] theorem State.pollOutcome_pending (s : State) (k : Slot) (n : Nat) (r : ExchangeEnd) : (s.pollOutcome k n r).pending = s.pending := by
  unfold State.pollOutcome; repeat' split
  all_goals simp

@[simp] theorem State.downloadOutcome_corridor (s : State) (k : Slot) (r : ExchangeEnd) : (s.downloadOutcome k r).corridor = s.corridor := by
  unfold State.downloadOutcome; split <;> simp

@[simp] theorem State.downloadOutcome_clock (s : State) (k : Slot) (r : ExchangeEnd) : (s.downloadOutcome k r).clock = s.clock := by
  unfold State.downloadOutcome; split <;> simp

@[simp] theorem State.downloadOutcome_plans (s : State) (k : Slot) (r : ExchangeEnd) : (s.downloadOutcome k r).plans = s.plans := by
  unfold State.downloadOutcome; split <;> simp

@[simp] theorem State.downloadOutcome_host (s : State) (k : Slot) (r : ExchangeEnd) : (s.downloadOutcome k r).host = s.host := by
  unfold State.downloadOutcome; split <;> simp

@[simp] theorem State.downloadOutcome_pending (s : State) (k : Slot) (r : ExchangeEnd) : (s.downloadOutcome k r).pending = s.pending := by
  unfold State.downloadOutcome; split <;> simp

@[simp] theorem State.endExchange_corridor (s : State) (r : ExchangeEnd) : (s.endExchange r).corridor = s.corridor := by
  unfold State.endExchange; dsimp only; repeat' split
  all_goals simp

@[simp] theorem State.endExchange_clock (s : State) (r : ExchangeEnd) : (s.endExchange r).clock = s.clock := by
  unfold State.endExchange; dsimp only; repeat' split
  all_goals simp

@[simp] theorem State.endExchange_plans (s : State) (r : ExchangeEnd) : (s.endExchange r).plans = s.plans := by
  unfold State.endExchange; dsimp only; repeat' split
  all_goals simp

@[simp] theorem State.endExchange_host (s : State) (r : ExchangeEnd) : (s.endExchange r).host = s.host := by
  unfold State.endExchange; dsimp only; repeat' split
  all_goals simp

@[simp] theorem State.endExchange_pending (s : State) (r : ExchangeEnd) : (s.endExchange r).pending = s.pending := by
  unfold State.endExchange; dsimp only; repeat' split
  all_goals simp

@[simp] theorem State.countBad_corridor (s : State) (k : Slot) (n : Nat) : (s.countBad k n).corridor = s.corridor := by
  unfold State.countBad; dsimp only; repeat' split
  all_goals simp

@[simp] theorem State.countBad_clock (s : State) (k : Slot) (n : Nat) : (s.countBad k n).clock = s.clock := by
  unfold State.countBad; dsimp only; repeat' split
  all_goals simp

@[simp] theorem State.countBad_plans (s : State) (k : Slot) (n : Nat) : (s.countBad k n).plans = s.plans := by
  unfold State.countBad; dsimp only; repeat' split
  all_goals simp

@[simp] theorem State.countBad_flow (s : State) (k : Slot) (n : Nat) : (s.countBad k n).flow = s.flow := by
  unfold State.countBad; dsimp only; repeat' split
  all_goals simp

@[simp] theorem State.countBad_engine (s : State) (k : Slot) (n : Nat) : (s.countBad k n).engine = s.engine := by
  unfold State.countBad; dsimp only; repeat' split
  all_goals simp

@[simp] theorem State.countBad_transition (s : State) (k : Slot) (n : Nat) : (s.countBad k n).transition = s.transition := by
  unfold State.countBad; dsimp only; repeat' split
  all_goals simp

@[simp] theorem State.countBad_monitor (s : State) (k : Slot) (n : Nat) : (s.countBad k n).monitor = s.monitor := by
  unfold State.countBad; dsimp only; repeat' split
  all_goals simp

@[simp] theorem State.countBad_directory (s : State) (k : Slot) (n : Nat) : (s.countBad k n).directory = s.directory := by
  unfold State.countBad; dsimp only; repeat' split
  all_goals simp

@[simp] theorem State.countBad_host (s : State) (k : Slot) (n : Nat) : (s.countBad k n).host = s.host := by
  unfold State.countBad; dsimp only; repeat' split
  all_goals simp

@[simp] theorem State.countBad_free (s : State) (k : Slot) (n : Nat) : (s.countBad k n).free = s.free := by
  unfold State.countBad; dsimp only; repeat' split
  all_goals simp

@[simp] theorem State.countBad_pending (s : State) (k : Slot) (n : Nat) : (s.countBad k n).pending = s.pending := by
  unfold State.countBad; dsimp only; repeat' split
  all_goals simp

@[simp] theorem State.badFrame_corridor (s : State) (tag : Option WindowTag) (c : Bool) : (s.badFrame tag c).corridor = s.corridor := by
  unfold State.badFrame; dsimp only; repeat' split
  all_goals simp

@[simp] theorem State.badFrame_clock (s : State) (tag : Option WindowTag) (c : Bool) : (s.badFrame tag c).clock = s.clock := by
  unfold State.badFrame; dsimp only; repeat' split
  all_goals simp

@[simp] theorem State.badFrame_plans (s : State) (tag : Option WindowTag) (c : Bool) : (s.badFrame tag c).plans = s.plans := by
  unfold State.badFrame; dsimp only; repeat' split
  all_goals simp

@[simp] theorem State.badFrame_host (s : State) (tag : Option WindowTag) (c : Bool) : (s.badFrame tag c).host = s.host := by
  unfold State.badFrame; dsimp only; repeat' split
  all_goals simp

@[simp] theorem State.badFrame_pending (s : State) (tag : Option WindowTag) (c : Bool) : (s.badFrame tag c).pending = s.pending := by
  unfold State.badFrame; dsimp only; repeat' split
  all_goals simp

@[simp] theorem State.classify_corridor (s : State) (tag : Option WindowTag) (a k : Byte) (b : List Byte) : (s.classify tag a k b).corridor = s.corridor := by
  unfold State.classify; repeat' split
  all_goals simp

@[simp] theorem State.classify_clock (s : State) (tag : Option WindowTag) (a k : Byte) (b : List Byte) : (s.classify tag a k b).clock = s.clock := by
  unfold State.classify; repeat' split
  all_goals simp

@[simp] theorem State.classify_plans (s : State) (tag : Option WindowTag) (a k : Byte) (b : List Byte) : (s.classify tag a k b).plans = s.plans := by
  unfold State.classify; repeat' split
  all_goals simp

@[simp] theorem State.classify_host (s : State) (tag : Option WindowTag) (a k : Byte) (b : List Byte) : (s.classify tag a k b).host = s.host := by
  unfold State.classify; repeat' split
  all_goals simp

@[simp] theorem State.classify_pending (s : State) (tag : Option WindowTag) (a k : Byte) (b : List Byte) : (s.classify tag a k b).pending = s.pending := by
  unfold State.classify; repeat' split
  all_goals simp

@[simp] theorem State.checkFrame_corridor (s : State) (f : RxFrame) : (s.checkFrame f).corridor = s.corridor := by
  unfold State.checkFrame; split <;> simp

@[simp] theorem State.checkFrame_clock (s : State) (f : RxFrame) : (s.checkFrame f).clock = s.clock := by
  unfold State.checkFrame; split <;> simp

@[simp] theorem State.checkFrame_plans (s : State) (f : RxFrame) : (s.checkFrame f).plans = s.plans := by
  unfold State.checkFrame; split <;> simp

@[simp] theorem State.checkFrame_host (s : State) (f : RxFrame) : (s.checkFrame f).host = s.host := by
  unfold State.checkFrame; split <;> simp

@[simp] theorem State.checkFrame_pending (s : State) (f : RxFrame) : (s.checkFrame f).pending = s.pending := by
  unfold State.checkFrame; split <;> simp

@[simp] theorem State.checkFrames_corridor (n : Nat) (s : State) : (s.checkFrames n).corridor = s.corridor := by
  induction n generalizing s with
  | zero => rfl
  | succ n ih =>
    unfold State.checkFrames
    split
    · rfl
    · rw [ih]; simp

@[simp] theorem State.checkFrames_clock (n : Nat) (s : State) : (s.checkFrames n).clock = s.clock := by
  induction n generalizing s with
  | zero => rfl
  | succ n ih =>
    unfold State.checkFrames
    split
    · rfl
    · rw [ih]; simp

@[simp] theorem State.checkFrames_plans (n : Nat) (s : State) : (s.checkFrames n).plans = s.plans := by
  induction n generalizing s with
  | zero => rfl
  | succ n ih =>
    unfold State.checkFrames
    split
    · rfl
    · rw [ih]; simp

@[simp] theorem State.checkFrames_host (n : Nat) (s : State) : (s.checkFrames n).host = s.host := by
  induction n generalizing s with
  | zero => rfl
  | succ n ih =>
    unfold State.checkFrames
    split
    · rfl
    · rw [ih]; simp

@[simp] theorem State.checkFrames_pending (n : Nat) (s : State) : (s.checkFrames n).pending = s.pending := by
  induction n generalizing s with
  | zero => rfl
  | succ n ih =>
    unfold State.checkFrames
    split
    · rfl
    · rw [ih]; simp

@[simp] theorem State.corridorChar_corridor (s : State) (prompt : Bool) (c : LineChar) : (s.corridorChar prompt c).corridor = s.corridor := by
  unfold State.corridorChar; dsimp only; repeat' split
  all_goals simp

@[simp] theorem State.corridorChar_clock (s : State) (prompt : Bool) (c : LineChar) : (s.corridorChar prompt c).clock = s.clock := by
  unfold State.corridorChar; dsimp only; repeat' split
  all_goals simp

@[simp] theorem State.corridorChar_plans (s : State) (prompt : Bool) (c : LineChar) : (s.corridorChar prompt c).plans = s.plans := by
  unfold State.corridorChar; dsimp only; repeat' split
  all_goals simp

@[simp] theorem State.corridorChar_host (s : State) (prompt : Bool) (c : LineChar) : (s.corridorChar prompt c).host = s.host := by
  unfold State.corridorChar; dsimp only; repeat' split
  all_goals simp

@[simp] theorem State.corridorChar_pending (s : State) (prompt : Bool) (c : LineChar) : (s.corridorChar prompt c).pending = s.pending := by
  unfold State.corridorChar; dsimp only; repeat' split
  all_goals simp


/-! ### The master cycle -/

@[simp] theorem State.commitPlan_plans (s : State) (p : PlanNo) (b : Bool) : (s.commitPlan p b).plans = s.plans := by
  simp [State.commitPlan, State.commitBlocks]

@[simp] theorem State.commitPlan_flow (s : State) (p : PlanNo) (b : Bool) : (s.commitPlan p b).flow = s.flow := by
  simp [State.commitPlan, State.commitBlocks]

@[simp] theorem State.commitPlan_line (s : State) (p : PlanNo) (b : Bool) : (s.commitPlan p b).line = s.line := by
  simp [State.commitPlan, State.commitBlocks]

@[simp] theorem State.commitPlan_host (s : State) (p : PlanNo) (b : Bool) : (s.commitPlan p b).host = s.host := by
  simp [State.commitPlan, State.commitBlocks]

@[simp] theorem State.commitPlan_pending (s : State) (p : PlanNo) (b : Bool) : (s.commitPlan p b).pending = s.pending := by
  simp [State.commitPlan, State.commitBlocks]

@[simp] theorem State.commitTest_plans (s : State) : s.commitTest.plans = s.plans := by
  unfold State.commitTest; dsimp only; repeat' split
  all_goals simp

@[simp] theorem State.commitTest_flow (s : State) : s.commitTest.flow = s.flow := by
  unfold State.commitTest; dsimp only; repeat' split
  all_goals simp

@[simp] theorem State.commitTest_line (s : State) : s.commitTest.line = s.line := by
  unfold State.commitTest; dsimp only; repeat' split
  all_goals simp

@[simp] theorem State.commitTest_host (s : State) : s.commitTest.host = s.host := by
  unfold State.commitTest; dsimp only; repeat' split
  all_goals simp

@[simp] theorem State.commitTest_pending (s : State) : s.commitTest.pending = s.pending := by
  unfold State.commitTest; dsimp only; repeat' split
  all_goals simp

@[simp] theorem State.assembleBeacon_corridor (s : State) (b : Bool) : (s.assembleBeacon b).corridor = s.corridor := by
  simp [State.assembleBeacon]

@[simp] theorem State.assembleBeacon_clock (s : State) (b : Bool) : (s.assembleBeacon b).clock = s.clock := by
  simp [State.assembleBeacon]

@[simp] theorem State.assembleBeacon_plans (s : State) (b : Bool) : (s.assembleBeacon b).plans = s.plans := by
  simp [State.assembleBeacon]

@[simp] theorem State.assembleBeacon_flow (s : State) (b : Bool) : (s.assembleBeacon b).flow = s.flow := by
  simp [State.assembleBeacon]

@[simp] theorem State.assembleBeacon_engine (s : State) (b : Bool) : (s.assembleBeacon b).engine = s.engine := by
  simp [State.assembleBeacon]

@[simp] theorem State.assembleBeacon_monitor (s : State) (b : Bool) : (s.assembleBeacon b).monitor = s.monitor := by
  simp [State.assembleBeacon]

@[simp] theorem State.assembleBeacon_directory (s : State) (b : Bool) : (s.assembleBeacon b).directory = s.directory := by
  simp [State.assembleBeacon]

@[simp] theorem State.assembleBeacon_host (s : State) (b : Bool) : (s.assembleBeacon b).host = s.host := by
  simp [State.assembleBeacon]

@[simp] theorem State.assembleBeacon_notices (s : State) (b : Bool) : (s.assembleBeacon b).notices = s.notices := by
  simp [State.assembleBeacon]

@[simp] theorem State.assembleBeacon_free (s : State) (b : Bool) : (s.assembleBeacon b).free = s.free := by
  simp [State.assembleBeacon]

@[simp] theorem State.assembleBeacon_pending (s : State) (b : Bool) : (s.assembleBeacon b).pending = s.pending := by
  simp [State.assembleBeacon]

@[simp] theorem State.cycleZero_plans (s : State) (n : Nat) : (s.cycleZero n).plans = s.plans := by
  simp [State.cycleZero]

@[simp] theorem State.cycleZero_flow (s : State) (n : Nat) : (s.cycleZero n).flow = s.flow := by
  simp [State.cycleZero]

@[simp] theorem State.cycleZero_host (s : State) (n : Nat) : (s.cycleZero n).host = s.host := by
  simp [State.cycleZero]

@[simp] theorem State.cycleZero_pending (s : State) (n : Nat) : (s.cycleZero n).pending = s.pending := by
  simp [State.cycleZero]

@[simp] theorem State.handMemories_corridor (s : State) (b : Beacon) (n : Nat) : (s.handMemories b n).corridor = s.corridor := by
  unfold State.handMemories; split <;> simp

@[simp] theorem State.handMemories_clock (s : State) (b : Beacon) (n : Nat) : (s.handMemories b n).clock = s.clock := by
  unfold State.handMemories; split <;> simp

@[simp] theorem State.handMemories_plans (s : State) (b : Beacon) (n : Nat) : (s.handMemories b n).plans = s.plans := by
  unfold State.handMemories; split <;> simp

@[simp] theorem State.handMemories_flow (s : State) (b : Beacon) (n : Nat) : (s.handMemories b n).flow = s.flow := by
  unfold State.handMemories; split <;> simp

@[simp] theorem State.handMemories_engine (s : State) (b : Beacon) (n : Nat) : (s.handMemories b n).engine = s.engine := by
  unfold State.handMemories; split <;> simp

@[simp] theorem State.handMemories_transition (s : State) (b : Beacon) (n : Nat) : (s.handMemories b n).transition = s.transition := by
  unfold State.handMemories; split <;> simp

@[simp] theorem State.handMemories_directory (s : State) (b : Beacon) (n : Nat) : (s.handMemories b n).directory = s.directory := by
  unfold State.handMemories; split <;> simp

@[simp] theorem State.handMemories_line (s : State) (b : Beacon) (n : Nat) : (s.handMemories b n).line = s.line := by
  unfold State.handMemories; split <;> simp

@[simp] theorem State.handMemories_host (s : State) (b : Beacon) (n : Nat) : (s.handMemories b n).host = s.host := by
  unfold State.handMemories; split <;> simp

@[simp] theorem State.handMemories_notices (s : State) (b : Beacon) (n : Nat) : (s.handMemories b n).notices = s.notices := by
  unfold State.handMemories; split <;> simp

@[simp] theorem State.handMemories_free (s : State) (b : Beacon) (n : Nat) : (s.handMemories b n).free = s.free := by
  unfold State.handMemories; split <;> simp

@[simp] theorem State.handMemories_pending (s : State) (b : Beacon) (n : Nat) : (s.handMemories b n).pending = s.pending := by
  unfold State.handMemories; split <;> simp

end Sys2Proof.Machine
end

