-- ==== Sys2Proof/Laws/Notices.lean ====
section
/-! SUPPORT. The notice queue never holds more than 32 notices, whatever is reported (R192). -/

namespace Sys2Proof.Machine

/-- The notice queue within its capacity. -/
def NoticeUnit.Bounded (n : NoticeUnit) : Prop := n.queue.length ≤ Config.noticeQueueSize

theorem NoticeUnit.offer_bounded {n : NoticeUnit} (x : Notice) (h : n.Bounded) : (n.offer x).Bounded := by
  unfold NoticeUnit.offer
  split
  · simp only [NoticeUnit.Bounded, List.length_append, List.length_cons, List.length_nil] at *; omega
  · exact h

theorem NoticeUnit.offerIf_bounded {n : NoticeUnit} (x : Notice) (h : n.Bounded) : (n.offerIf x).Bounded := by
  unfold NoticeUnit.offerIf
  split
  · exact n.offer_bounded x h
  · exact h

theorem NoticeUnit.signal_bounded {n : NoticeUnit} (q : NoticeStamp) (g : Signal) (h : n.Bounded) :
    (n.signal q g).Bounded := by
  cases g with
  | event d => exact NoticeUnit.offerIf_bounded _ h
  | slotEvent k d => exact NoticeUnit.offerIf_bounded _ h
  | blocked ks =>
    simp only [NoticeUnit.signal]
    split
    · exact NoticeUnit.offerIf_bounded _ h
    · exact h
  | condition c k on d =>
    simp only [NoticeUnit.signal]
    split
    · exact NoticeUnit.offerIf_bounded _ h
    · exact h
  | summary d => exact NoticeUnit.offerIf_bounded _ h

theorem State.signals_bounded {s : State} (gs : List Signal) (h : s.notices.Bounded) :
    (s.signals gs).notices.Bounded := by
  induction gs generalizing s with
  | nil => exact h
  | cons g gs ih => exact ih (s := s.signal g) (NoticeUnit.signal_bounded _ g h)

/-- The offers of a list keep the queue within its capacity (R192). -/
theorem NoticeUnit.offers_bounded {n : NoticeUnit} (xs : List Notice) (h : n.Bounded) :
    (xs.foldl NoticeUnit.offer n).Bounded := by
  induction xs generalizing n with
  | nil => exact h
  | cons x xs ih => exact ih (n.offer_bounded x h)

/-- One moment keeps the queue within its capacity, whatever happens at it (R192). -/
theorem State.moment_bounded {s : State} (f : State → State) (h : s.notices.Bounded) :
    (s.moment f).notices.Bounded := NoticeUnit.offers_bounded _ h

/-- The masks are changed by no report. -/
@[simp] theorem NoticeUnit.signal_masks (n : NoticeUnit) (q : NoticeStamp) (g : Signal) : (n.signal q g).masks = n.masks := by
  have offer : ∀ (m : NoticeUnit) x, (m.offer x).masks = m.masks := by
    intro m x; unfold NoticeUnit.offer; split <;> rfl
  have offerIf : ∀ (m : NoticeUnit) x, (m.offerIf x).masks = m.masks := by
    intro m x; unfold NoticeUnit.offerIf; split
    · exact offer m x
    · rfl
  cases g <;> simp only [NoticeUnit.signal, offerIf]
  all_goals (split <;> simp [offerIf])

/-- What a list of reports does to the Notice Unit: one after the other, at one sequence number (10.5). -/
theorem State.signals_notices (s : State) (gs : List Signal) :
    (s.signals gs).notices = gs.foldl (fun n g => n.signal s.stamp g) s.notices := by
  induction gs generalizing s with
  | nil => rfl
  | cons g gs ih => exact ih (s.signal g)

/-- What one moment does to the Notice Unit: what its reports do, then the offers they made (R191). -/
theorem State.moment_notices (f : State → State) (s : State) :
    (s.moment f).notices
      = (joinBlocks Block.all (f s.gather).free (f s.gather).notices.queue).foldl NoticeUnit.offer
          { (f s.gather).notices with queue := s.notices.queue } := rfl

/-- An offer changes the queue and NOTICE_OVERFLOW's latch alone (R191, R192). -/
theorem NoticeUnit.offers_latches (n : NoticeUnit) (xs : List Notice) :
    (xs.foldl NoticeUnit.offer n).slots = n.slots ∧ (xs.foldl NoticeUnit.offer n).masks = n.masks ∧
      (xs.foldl NoticeUnit.offer n).corridor
        = { n.corridor with noticeOverflow := (xs.foldl NoticeUnit.offer n).corridor.noticeOverflow } := by
  induction xs generalizing n with
  | nil => exact ⟨rfl, rfl, rfl⟩
  | cons x xs ih =>
    have h := ih (n.offer x)
    have g : (n.offer x).slots = n.slots ∧ (n.offer x).masks = n.masks ∧
        (n.offer x).corridor = { n.corridor with noticeOverflow := (n.offer x).corridor.noticeOverflow } := by
      unfold NoticeUnit.offer; split <;> simp
    refine ⟨h.1.trans g.1, h.2.1.trans g.2.1, ?_⟩
    rw [List.foldl_cons, h.2.2, g.2.2]

/-- One moment leaves every latch but NOTICE_OVERFLOW's, and every mask, as what happens at it leaves them (R191). -/
theorem State.moment_latches (f : State → State) (s : State) :
    (s.moment f).notices.slots = (f s.gather).notices.slots ∧
      (s.moment f).notices.masks = (f s.gather).notices.masks ∧
      (s.moment f).notices.corridor = { (f s.gather).notices.corridor with
        noticeOverflow := (s.moment f).notices.corridor.noticeOverflow } :=
  NoticeUnit.offers_latches _ _

/-- Lists of reports leave every mask as it is (R190). -/
@[simp] theorem State.signals_masks (s : State) (gs : List Signal) : (s.signals gs).notices.masks = s.notices.masks := by
  induction gs generalizing s with
  | nil => rfl
  | cons g gs ih => exact (ih (s.signal g)).trans (NoticeUnit.signal_masks _ _ _)

/-- An offer changes the queue, and of the latches only NOTICE_OVERFLOW's (R192). -/
theorem NoticeUnit.offerIf_latches (n : NoticeUnit) (x : Notice) :
    (n.offerIf x).slots = n.slots ∧
      (n.offerIf x).corridor = { n.corridor with noticeOverflow := (n.offerIf x).corridor.noticeOverflow } := by
  unfold NoticeUnit.offerIf NoticeUnit.offer
  split
  · split <;> simp
  · simp

/-- A corridor event rises its latch, and changes no other latch but NOTICE_OVERFLOW's (10.5). -/
theorem NoticeUnit.event_latches (n : NoticeUnit) (q : NoticeStamp) (d : KindData) :
    (n.signal q (.event d)).slots = n.slots ∧
      (n.signal q (.event d)).corridor
        = { n.corridor.rise d with noticeOverflow := (n.signal q (.event d)).corridor.noticeOverflow } :=
  NoticeUnit.offerIf_latches { n with corridor := n.corridor.rise d } _

/-- A per-slot event rises its slot's latch, and changes no corridor latch but NOTICE_OVERFLOW's (10.5). -/
theorem NoticeUnit.slotEvent_latches (n : NoticeUnit) (q : NoticeStamp) (k : Slot) (d : KindData) :
    (n.signal q (.slotEvent k d)).slots = n.slots.set k ((n.slots.get k).rise d) ∧
      (n.signal q (.slotEvent k d)).corridor
        = { n.corridor with noticeOverflow := (n.signal q (.slotEvent k d)).corridor.noticeOverflow } :=
  NoticeUnit.offerIf_latches { n with slots := n.slots.modify k fun l => l.rise d } _

/-- A condition's value reaches its slot's latch, and changes no corridor latch but NOTICE_OVERFLOW's (10.5). -/
theorem NoticeUnit.condition_latches (n : NoticeUnit) (q : NoticeStamp) (c : SlotCondition) (k : Slot) (on : Bool)
    (d : KindData) :
    (n.signal q (.condition c k on d)).slots
        = n.slots.set k ((n.slots.get k).setCondition c (((n.slots.get k).condition c).send on d)) ∧
      (n.signal q (.condition c k on d)).corridor
        = { n.corridor with noticeOverflow := (n.signal q (.condition c k on d)).corridor.noticeOverflow } := by
  simp only [NoticeUnit.signal]
  split
  · exact NoticeUnit.offerIf_latches _ _
  · simp [PerSlot.modify]

/-- A condition that becomes or stays false offers no notice (10.5). -/
theorem NoticeUnit.condition_false (n : NoticeUnit) (q : NoticeStamp) (c : SlotCondition) (k : Slot) (d : KindData) :
    (n.signal q (.condition c k false d)).queue = n.queue ∧
      (n.signal q (.condition c k false d)).corridor = n.corridor := by
  simp [NoticeUnit.signal, ConditionLatch.rises]

end Sys2Proof.Machine
end

