-- ==== Sys2Proof/WellFormed.lean ====
section
/-! DEFINITION. Which operands the lines can bring: a record of R178, a frame of R145, a lateness of R16. -/

namespace Sys2Proof

/-- The operands of a command are ones the two lines can bring: at most one whole host record of 246 bytes
(R178), at most one whole corridor frame of 92 characters (R145), a master time no later than the latest
lateness limit, 100 ds (R16). -/
def Instr.wellFormed : Instr → Bool
  | .hostRecordReceived bytes => bytes.length ≤ 246
  | .loopbackFrameReceived chars => chars.length ≤ 92
  | .corridorFrameReceived chars _ _ => chars.length ≤ 92
  | .beaconBegin t => t ≤ 100
  | .coldReset | .hostGapTimeout | .hostRecordBegin | .hostRecordSent | .unknownKindRequest
  | .identify | .status | .setNoticeMask | .reset | .defineJunction | .removeJunction | .readJunction
  | .writePlan | .readPlan | .setCorridor | .readCorridor | .start | .stop | .switchPlan | .preloadPlan
  | .holdDirection | .freeJunction | .reseekJunction | .seedQueue | .injectSkew | .readProgression
  | .loopbackTest | .loopbackBegin | .testFrameBegin | .loopbackComplete | .cycleZero | .beaconWithdrawn
  | .beaconSent | .pollBegin | .downloadFrameBegin | .exchangeFrameSent | .replyTimeout | .frameTruncated
  | .sweepDeadline | .computationComplete | .downloadGuard | .lineQualityWindowEnd => true

end Sys2Proof
end

