-- ==== Sys2Proof/Laws/PerInstr.lean ====
section
/-! SUPPORT. The family Arguments, command by command: a well-formed command brings no more than one record of the
host link or one frame of the corridor line (R145, R178), and no word spells it. -/

namespace Sys2Proof.Laws

/-- How many bytes or characters a command brings. -/
def traffic : Instr → Nat
  | .hostRecordReceived bytes => bytes.length
  | .loopbackFrameReceived chars => chars.length
  | .corridorFrameReceived chars _ _ => chars.length
  | .beaconBegin _ | .coldReset | .hostGapTimeout | .hostRecordBegin | .hostRecordSent | .unknownKindRequest
  | .identify | .status | .setNoticeMask | .reset | .defineJunction | .removeJunction | .readJunction
  | .writePlan | .readPlan | .setCorridor | .readCorridor | .start | .stop | .switchPlan | .preloadPlan
  | .holdDirection | .freeJunction | .reseekJunction | .seedQueue | .injectSkew | .readProgression
  | .loopbackTest | .loopbackBegin | .testFrameBegin | .loopbackComplete | .cycleZero | .beaconWithdrawn
  | .beaconSent | .pollBegin | .downloadFrameBegin | .exchangeFrameSent | .replyTimeout | .frameTruncated
  | .sweepDeadline | .computationComplete | .downloadGuard | .lineQualityWindowEnd => 0

namespace Arguments

/-- What the family says of a command. -/
def Statement (i : Instr) : Prop :=
  (i.wellFormed = true → traffic i ≤ 246) ∧ ∀ nbits w, decodeTableWord nbits w ≠ some i

theorem coldReset : Statement .coldReset :=
  ⟨fun _ => Nat.zero_le _, fun _ _ h => nomatch h⟩

theorem hostRecordReceived (bytes : List Byte) : Statement (.hostRecordReceived bytes) :=
  ⟨fun h => by simpa [Instr.wellFormed, traffic] using h, fun _ _ h => nomatch h⟩

theorem hostGapTimeout : Statement .hostGapTimeout :=
  ⟨fun _ => Nat.zero_le _, fun _ _ h => nomatch h⟩

theorem hostRecordBegin : Statement .hostRecordBegin :=
  ⟨fun _ => Nat.zero_le _, fun _ _ h => nomatch h⟩

theorem hostRecordSent : Statement .hostRecordSent :=
  ⟨fun _ => Nat.zero_le _, fun _ _ h => nomatch h⟩

theorem unknownKindRequest : Statement .unknownKindRequest :=
  ⟨fun _ => Nat.zero_le _, fun _ _ h => nomatch h⟩

theorem identify : Statement .identify :=
  ⟨fun _ => Nat.zero_le _, fun _ _ h => nomatch h⟩

theorem status : Statement .status :=
  ⟨fun _ => Nat.zero_le _, fun _ _ h => nomatch h⟩

theorem setNoticeMask : Statement .setNoticeMask :=
  ⟨fun _ => Nat.zero_le _, fun _ _ h => nomatch h⟩

theorem reset : Statement .reset :=
  ⟨fun _ => Nat.zero_le _, fun _ _ h => nomatch h⟩

theorem defineJunction : Statement .defineJunction :=
  ⟨fun _ => Nat.zero_le _, fun _ _ h => nomatch h⟩

theorem removeJunction : Statement .removeJunction :=
  ⟨fun _ => Nat.zero_le _, fun _ _ h => nomatch h⟩

theorem readJunction : Statement .readJunction :=
  ⟨fun _ => Nat.zero_le _, fun _ _ h => nomatch h⟩

theorem writePlan : Statement .writePlan :=
  ⟨fun _ => Nat.zero_le _, fun _ _ h => nomatch h⟩

theorem readPlan : Statement .readPlan :=
  ⟨fun _ => Nat.zero_le _, fun _ _ h => nomatch h⟩

theorem setCorridor : Statement .setCorridor :=
  ⟨fun _ => Nat.zero_le _, fun _ _ h => nomatch h⟩

theorem readCorridor : Statement .readCorridor :=
  ⟨fun _ => Nat.zero_le _, fun _ _ h => nomatch h⟩

theorem start : Statement .start :=
  ⟨fun _ => Nat.zero_le _, fun _ _ h => nomatch h⟩

theorem stop : Statement .stop :=
  ⟨fun _ => Nat.zero_le _, fun _ _ h => nomatch h⟩

theorem switchPlan : Statement .switchPlan :=
  ⟨fun _ => Nat.zero_le _, fun _ _ h => nomatch h⟩

theorem preloadPlan : Statement .preloadPlan :=
  ⟨fun _ => Nat.zero_le _, fun _ _ h => nomatch h⟩

theorem holdDirection : Statement .holdDirection :=
  ⟨fun _ => Nat.zero_le _, fun _ _ h => nomatch h⟩

theorem freeJunction : Statement .freeJunction :=
  ⟨fun _ => Nat.zero_le _, fun _ _ h => nomatch h⟩

theorem reseekJunction : Statement .reseekJunction :=
  ⟨fun _ => Nat.zero_le _, fun _ _ h => nomatch h⟩

theorem seedQueue : Statement .seedQueue :=
  ⟨fun _ => Nat.zero_le _, fun _ _ h => nomatch h⟩

theorem injectSkew : Statement .injectSkew :=
  ⟨fun _ => Nat.zero_le _, fun _ _ h => nomatch h⟩

theorem readProgression : Statement .readProgression :=
  ⟨fun _ => Nat.zero_le _, fun _ _ h => nomatch h⟩

theorem loopbackTest : Statement .loopbackTest :=
  ⟨fun _ => Nat.zero_le _, fun _ _ h => nomatch h⟩

theorem loopbackBegin : Statement .loopbackBegin :=
  ⟨fun _ => Nat.zero_le _, fun _ _ h => nomatch h⟩

theorem testFrameBegin : Statement .testFrameBegin :=
  ⟨fun _ => Nat.zero_le _, fun _ _ h => nomatch h⟩

theorem loopbackFrameReceived (chars : List LineChar) : Statement (.loopbackFrameReceived chars) :=
  ⟨fun h => by simp only [Instr.wellFormed, decide_eq_true_eq] at h; simp only [traffic]; omega,
    fun _ _ h => nomatch h⟩

theorem loopbackComplete : Statement .loopbackComplete :=
  ⟨fun _ => Nat.zero_le _, fun _ _ h => nomatch h⟩

theorem cycleZero : Statement .cycleZero :=
  ⟨fun _ => Nat.zero_le _, fun _ _ h => nomatch h⟩

theorem beaconBegin (masterTime : Nat) : Statement (.beaconBegin masterTime) :=
  ⟨fun _ => Nat.zero_le _, fun _ _ h => nomatch h⟩

theorem beaconWithdrawn : Statement .beaconWithdrawn :=
  ⟨fun _ => Nat.zero_le _, fun _ _ h => nomatch h⟩

theorem beaconSent : Statement .beaconSent :=
  ⟨fun _ => Nat.zero_le _, fun _ _ h => nomatch h⟩

theorem pollBegin : Statement .pollBegin :=
  ⟨fun _ => Nat.zero_le _, fun _ _ h => nomatch h⟩

theorem downloadFrameBegin : Statement .downloadFrameBegin :=
  ⟨fun _ => Nat.zero_le _, fun _ _ h => nomatch h⟩

theorem exchangeFrameSent : Statement .exchangeFrameSent :=
  ⟨fun _ => Nat.zero_le _, fun _ _ h => nomatch h⟩

theorem replyTimeout : Statement .replyTimeout :=
  ⟨fun _ => Nat.zero_le _, fun _ _ h => nomatch h⟩

theorem frameTruncated : Statement .frameTruncated :=
  ⟨fun _ => Nat.zero_le _, fun _ _ h => nomatch h⟩

theorem corridorFrameReceived (chars : List LineChar) (carrierAfter : Bool) (prompt : Bool) : Statement (.corridorFrameReceived chars carrierAfter prompt) :=
  ⟨fun h => by simp only [Instr.wellFormed, decide_eq_true_eq] at h; simp only [traffic]; omega,
    fun _ _ h => nomatch h⟩

theorem sweepDeadline : Statement .sweepDeadline :=
  ⟨fun _ => Nat.zero_le _, fun _ _ h => nomatch h⟩

theorem computationComplete : Statement .computationComplete :=
  ⟨fun _ => Nat.zero_le _, fun _ _ h => nomatch h⟩

theorem downloadGuard : Statement .downloadGuard :=
  ⟨fun _ => Nat.zero_le _, fun _ _ h => nomatch h⟩

theorem lineQualityWindowEnd : Statement .lineQualityWindowEnd :=
  ⟨fun _ => Nat.zero_le _, fun _ _ h => nomatch h⟩

end Arguments

end Sys2Proof.Laws
end

