-- ==== Sys2Proof/Laws/PlanState.lean ====
section
/-! SUPPORT. What leaves the active plan, the pending plan and the deadline count unchanged: orders, downloads and their
outcomes, exchanges and received characters (R126, R129 to R134, R151). -/

namespace Sys2Proof.Machine

/-- The active plan, the pending plan and the deadline count (R126). -/
def State.plan (s : State) : Option PlanNo × Option PlanNo × Nat :=
  (s.directory.active, s.directory.pending, s.directory.deadline)

/-- What leaves the Directory Unit unchanged leaves the plan state unchanged. -/
theorem State.plan_of_directory {s t : State} (h : t.directory = s.directory) : t.plan = s.plan := by
  unfold State.plan; rw [h]

@[simp] theorem State.addOrder_plan (s : State) (k : Slot) (p : PlanNo) : (s.addOrder k p).plan = s.plan := rfl

@[simp] theorem State.createFor_plan (s : State) (want : State → Slot → Bool) (p : PlanNo) :
    (s.createFor want p).plan = s.plan := by
  refine foldl_keeps State.plan _ (fun s k => ?_) _ s
  split <;> rfl

@[simp] theorem State.createOrders_plan (s : State) : s.createOrders.plan = s.plan :=
  foldl_keeps State.plan _ (fun s p => State.createFor_plan s _ p) _ s

@[simp] theorem State.giveUp_plan (s : State) (k : Slot) (p : PlanNo) (x : DirSlot) :
    (s.giveUp k p x).plan = s.plan := by
  unfold State.giveUp
  split
  · split <;> rfl
  all_goals rfl

@[simp] theorem State.withdraw_plan (s : State) (o : Order) : (s.withdraw o).plan = s.plan := by
  unfold State.withdraw
  dsimp only
  split
  · rfl
  · split
    · split <;> rfl
    all_goals rfl

@[simp] theorem State.withdrawAll_plan (s : State) (which : Order → Bool) : (s.withdrawAll which).plan = s.plan := by
  refine Eq.trans (b := (s.directory.orders.foldl
    (fun s o => if which o && !(o.stage == .onLine) then s.withdraw o else s) s).plan) rfl ?_
  refine foldl_keeps State.plan _ (fun s o => ?_) _ s
  split <;> simp

@[simp] theorem State.queueFrame_plan (s : State) (o : Order) (x : DirSlot) (c : LoadContent) :
    (s.queueFrame o x c).plan = s.plan := rfl

@[simp] theorem State.firstQueuing_plan (s : State) (o : Order) (x : DirSlot) :
    (s.firstQueuing o x).plan = s.plan :=
  State.giveUp_plan s o.slot o.plan x

theorem State.feedOnce_plan {s t : State} (h : s.feedOnce = some t) : t.plan = s.plan := by
  unfold State.feedOnce at h
  split at h
  · cases h
  · split at h
    · cases h
    · split at h
      · split at h <;> cases h
        · rfl
        · simp
      · split at h <;> cases h
        rfl

@[simp] theorem State.feed_plan (s : State) : s.feed.plan = s.plan := by
  unfold State.feed
  generalize s.directory.orders.length = n
  induction n generalizing s with
  | zero => rfl
  | succ n ih =>
    simp only [State.feedLoop]
    cases h : s.feedOnce with
    | none => rfl
    | some t => exact (ih t).trans (State.feedOnce_plan h)

@[simp] theorem State.completeLoad_plan (s : State) (o : Order) (x : DirSlot) :
    (s.completeLoad o x).plan = s.plan := by
  unfold State.completeLoad
  dsimp only
  split
  · split
    · split
      · exact (State.plan_of_directory (State.planArrived_directory _ _)).trans rfl
      · rfl
    · rfl
  all_goals rfl

@[simp] theorem State.failLoad_plan (s : State) (o : Order) (x : DirSlot) (late : Bool) :
    (s.failLoad o x late).plan = s.plan := by
  unfold State.failLoad
  dsimp only
  split
  · split <;> rfl
  · rfl

@[simp] theorem State.resolveLoad_plan (s : State) (k : Slot) (r : LoadOutcome) :
    (s.resolveLoad k r).plan = s.plan := by
  unfold State.resolveLoad
  split
  · rfl
  · split
    · rfl
    · split <;> simp

@[simp] theorem State.deliverMiss_plan (s : State) (k : Slot) : (s.deliverMiss k).plan = s.plan :=
  State.plan_of_directory (by simp)

@[simp] theorem State.deliverReport_plan (s : State) (k : Slot) (x : StepReport) (y : Both ApproachReport) :
    (s.deliverReport k x y).plan = s.plan :=
  State.plan_of_directory (by simp)

@[simp] theorem State.sweepComplete_plan (s : State) : s.sweepComplete.plan = s.plan := by
  unfold State.sweepComplete
  dsimp only
  rw [State.feed_plan, State.plan_of_directory (State.setLine_directory _ _), State.createOrders_plan]
  exact State.plan_of_directory (by simp)

@[simp] theorem State.slotResolved_plan (s : State) : s.slotResolved.plan = s.plan := by
  unfold State.slotResolved
  split
  · rfl
  · split
    · simp
    · rfl

@[simp] theorem State.pollFailed_plan (s : State) (k : Slot) (attempt : Nat) :
    (s.pollFailed k attempt).plan = s.plan := by
  unfold State.pollFailed
  split
  · split <;> rfl
  · simp

@[simp] theorem State.pollOutcome_plan (s : State) (k : Slot) (attempt : Nat) (r : ExchangeEnd) :
    (s.pollOutcome k attempt r).plan = s.plan := by
  unfold State.pollOutcome
  split
  · simp
  · simp
  · split
    · simp
    · split <;> simp

@[simp] theorem State.downloadOutcome_plan (s : State) (k : Slot) (r : ExchangeEnd) :
    (s.downloadOutcome k r).plan = s.plan := by
  unfold State.downloadOutcome
  split <;> simp

@[simp] theorem State.gather_plan (s : State) : s.gather.plan = s.plan := rfl

/-- One moment leaves the plan state as what happens at it leaves it (R191). -/
@[simp] theorem State.moment_plan (f : State → State) (s : State) : (s.moment f).plan = (f s.gather).plan := rfl

@[simp] theorem State.endExchange_plan (s : State) (r : ExchangeEnd) : (s.endExchange r).plan = s.plan := by
  unfold State.endExchange
  split
  · rfl
  · dsimp only
    split
    · rw [State.pollOutcome_plan]; rfl
    · rw [State.downloadOutcome_plan]; rfl

@[simp] theorem State.countBad_plan (s : State) (k : Slot) (address : Nat) : (s.countBad k address).plan = s.plan :=
  State.plan_of_directory (by simp)

@[simp] theorem State.badFrame_plan (s : State) (tag : Option WindowTag) (counted : Bool) :
    (s.badFrame tag counted).plan = s.plan := by
  unfold State.badFrame
  split
  · rfl
  · rw [State.moment_plan]
    dsimp only
    split <;> split <;> simp

@[simp] theorem State.classify_plan (s : State) (tag : Option WindowTag) (address kind : Byte) (body : List Byte) :
    (s.classify tag address kind body).plan = s.plan := by
  unfold State.classify
  split
  · repeat' split
    all_goals simp
  · rfl

@[simp] theorem State.checkFrame_plan (s : State) (f : RxFrame) : (s.checkFrame f).plan = s.plan := by
  unfold State.checkFrame
  split <;> simp

@[simp] theorem State.checkFrames_plan (n : Nat) (s : State) : (s.checkFrames n).plan = s.plan := by
  induction n generalizing s with
  | zero => rfl
  | succ n ih =>
    unfold State.checkFrames
    split
    · rfl
    · rw [ih, State.checkFrame_plan]; rfl

@[simp] theorem State.corridorChar_plan (prompt : Bool) (s : State) (c : LineChar) :
    (s.corridorChar prompt c).plan = s.plan := by
  unfold State.corridorChar
  split
  · rfl
  · rfl
  · rw [State.badFrame_plan]; rfl
  · dsimp only
    split
    · rw [State.checkFrames_plan]; rfl
    · rfl

/-- A commit makes the plan active, with none pending and the count 0 (R139). -/
theorem State.commitPlan_plan (s : State) (p : PlanNo) (complete : Bool) :
    (s.commitPlan p complete).plan = (some p, none, 0) := by
  unfold State.commitPlan
  rw [State.moment_plan]
  unfold State.commitBlocks
  dsimp only
  rw [State.createOrders_plan]
  exact (State.plan_of_directory (s := s.gather.setDirectory { s.gather.directory with
    dirs := s.gather.directory.useRunning s.gather.defined p, active := some p, pending := none, deadline := 0 })
      (by simp)).trans rfl

/-- A commit changes the corridor's state alone, from Starting to Running (R9, R139). -/
theorem State.commitPlan_corridor (s : State) (p : PlanNo) (complete : Bool) :
    (s.commitPlan p complete).corridor
      = { s.corridor with state := if s.corridor.state == .starting then .running else s.corridor.state } := by
  show (s.gather.commitBlocks p complete).corridor = _
  unfold State.commitBlocks
  dsimp only
  rw [State.createOrders_corridor, State.signals_corridor]
  rfl

/-- All a commit test can do to the plan state and the corridor: with no plan pending, nothing; else the count goes
down, and the plan is committed or not (R138). -/
theorem State.commitTest_plan (s : State) :
    (s.directory.pending = none ∧ s.commitTest = s) ∨
      ∃ p, s.directory.pending = some p ∧
        ((s.commitTest.plan = (some p, none, 0) ∧ s.commitTest.corridor
            = { s.corridor with state := if s.corridor.state == .starting then .running else s.corridor.state }) ∨
          (s.commitTest.plan = (s.directory.active, some p, s.directory.deadline - 1) ∧
            s.commitTest.corridor = s.corridor)) := by
  unfold State.commitTest
  cases h : s.directory.pending with
  | none => exact .inl ⟨rfl, rfl⟩
  | some p =>
    refine .inr ⟨p, rfl, ?_⟩
    dsimp only
    split
    · exact .inl ⟨State.commitPlan_plan _ _ _, State.commitPlan_corridor _ _ _⟩
    · split
      · exact .inl ⟨State.commitPlan_plan _ _ _, State.commitPlan_corridor _ _ _⟩
      · exact .inr ⟨by rw [← h]; rfl, rfl⟩

/-- A cycle zero leaves the plan state and the corridor as its commit test leaves them (R13, R138). -/
theorem State.cycleZero_plan (s : State) (q : Nat) :
    (s.cycleZero q).plan = (s.setClock { s.clock with masterTime := 0, sequence := q }).commitTest.plan ∧
      (s.cycleZero q).corridor
        = (s.setClock { s.clock with masterTime := 0, sequence := q }).commitTest.corridor := by
  unfold State.cycleZero
  exact ⟨rfl, rfl⟩

end Sys2Proof.Machine
end

