-- ==== Sys2Proof/Laws/Reception.lean ====
section
/-! SUPPORT. What a whole undamaged frame does at the receiver, on the line and on the internal loop (R144 to R150,
R163). -/

namespace Sys2Proof.Machine

/-- A character as the part sends it is good (R144). -/
@[simp] theorem goodChar_sendChar (b : Byte) : goodChar (sendChar b) = true := by
  simp only [goodChar, sendChar, Bool.true_and]
  cases oddOnes b <;> rfl

@[simp] theorem sendChar_data (b : Byte) : (sendChar b).data = b := rfl

/-- The check value stands in two bytes (R146). -/
theorem crcBytes_eq (l : List Byte) : ∃ a b, crcBytes l = [a, b] := ⟨_, _, rfl⟩

@[simp] theorem crcBytes_length (l : List Byte) : (crcBytes l).length = 2 := rfl

/-- The characters of a frame after its start character are five more than its body (R145). -/
@[simp] theorem frameChars_length (address kind : Nat) (body : List Byte) :
    (frameChars address kind body).length = body.length + 5 := by
  simp [frameChars]

/-- A frame as the part sends it passes its check (R145, R146). -/
@[simp] theorem goodFrame_frameChars (address kind : Nat) (body : List Byte) :
    goodFrame (frameChars address kind body) = some (u8 address, u8 kind, body) := by
  obtain ⟨a, b, h⟩ := crcBytes_eq (u8 address :: u8 kind :: u8 body.length :: body)
  have e : frameChars address kind body = (u8 address :: u8 kind :: u8 body.length :: body) ++ [a, b] := by
    rw [← h]; rfl
  unfold goodFrame
  rw [e]
  have take : ((u8 address :: u8 kind :: u8 body.length :: body) ++ [a, b]).take
      (((u8 address :: u8 kind :: u8 body.length :: body) ++ [a, b]).length - 2)
      = u8 address :: u8 kind :: u8 body.length :: body := by simp
  have drop : ((u8 address :: u8 kind :: u8 body.length :: body) ++ [a, b]).drop
      (((u8 address :: u8 kind :: u8 body.length :: body) ++ [a, b]).length - 2) = [a, b] := by simp
  rw [take, drop, if_pos h.symm]

/-- A good character that neither fills the buffer nor ends the frame goes on with it (R149, R150). -/
theorem receive_goes_on {f : RxFrame} {stored : Nat} {tag : Option WindowTag} {b : Byte}
    (room : stored + f.size < Config.receiveBufferSize)
    (more : ∀ n, bodyLength (f.chars ++ [b]) = some n → n ≤ Config.longestBody ∧ f.chars.length + 1 ≠ n + 5) :
    receive (some f) stored tag (sendChar b) = .assembling { f with chars := f.chars ++ [b] } := by
  simp only [receive, if_neg (Nat.not_le.2 room), goodChar_sendChar, Bool.not_true, Bool.false_eq_true, if_false,
    sendChar_data]
  cases h : bodyLength (f.chars ++ [b]) with
  | none => rfl
  | some n =>
    obtain ⟨h1, h2⟩ := more n h
    simp only [if_neg (Nat.not_lt.2 h1), List.length_append, List.length_cons, List.length_nil, Nat.zero_add,
      if_neg h2]

/-- A good character that ends the frame completes it (R149, R150). -/
theorem receive_completes {f : RxFrame} {stored n : Nat} {tag : Option WindowTag} {b : Byte}
    (room : stored + f.size < Config.receiveBufferSize) (h : bodyLength (f.chars ++ [b]) = some n)
    (short : n ≤ Config.longestBody) (last : f.chars.length + 1 = n + 5) :
    receive (some f) stored tag (sendChar b) = .complete { f with chars := f.chars ++ [b] } := by
  simp only [receive, if_neg (Nat.not_le.2 room), goodChar_sendChar, Bool.not_true, Bool.false_eq_true, if_false,
    sendChar_data, h, if_neg (Nat.not_lt.2 short), List.length_append, List.length_cons, List.length_nil,
    Nat.zero_add, if_pos last]

/-- What a receiver's fold over the rest of a frame's characters does, for a receiver that keeps the frame in
assembly (`put`), takes the complete frame (`done`), and does as `receive` says. -/
theorem receive_rest {σ : Type} (next : σ → LineChar → σ) (put : RxFrame → σ) (done : RxFrame → σ) (stored : Nat)
    (goes : ∀ f f' c tag, receive (some f) stored tag c = .assembling f' → next (put f) c = put f')
    (ends : ∀ f f' c tag, receive (some f) stored tag c = .complete f' → next (put f) c = done f')
    (address kind : Nat) (body : List Byte) (tag : Option WindowTag) (short : body.length ≤ Config.longestBody)
    (room : stored + body.length + 6 ≤ Config.receiveBufferSize) :
    ((frameChars address kind body).map sendChar).foldl next (put { chars := [], tag := tag })
      = done { chars := frameChars address kind body, tag := tag } := by
  have small : body.length < 256 := by simp only [Config.longestBody] at short; omega
  have len : (u8 body.length).toNat = body.length := by simp [u8]; omega
  have main : ∀ rest seen : List Byte, seen ++ rest = frameChars address kind body → rest ≠ [] →
      (rest.map sendChar).foldl next (put { chars := seen, tag := tag })
        = done { chars := frameChars address kind body, tag := tag } := by
    intro rest
    induction rest with
    | nil => intro _ _ h; exact absurd rfl h
    | cons b rest ih =>
      intro seen e _
      have total : seen.length + (rest.length + 1) = body.length + 5 := by
        have := congrArg List.length e; simpa using this
      have prefixOf : (seen ++ [b]) ++ rest = frameChars address kind body := by simpa using e
      have announces : ∀ n, bodyLength (seen ++ [b]) = some n → n = body.length := by
        intro n hn
        have pre : ∀ c : List Byte, c ++ rest = frameChars address kind body → bodyLength c = some n →
            n = body.length := by
          intro c hc hb
          match c with
          | [] | [_] | [_, _] => simp [bodyLength] at hb
          | x :: y :: z :: c' =>
            simp only [bodyLength, Option.some.injEq] at hb
            simp only [frameChars, List.cons_append, List.cons.injEq] at hc
            rw [← hb, hc.2.2.1, len]
        exact pre _ prefixOf hn
      cases rest with
      | nil =>
        have whole : seen ++ [b] = frameChars address kind body := by simpa using e
        have known : bodyLength (seen ++ [b]) = some body.length := by
          rw [whole]; simp [frameChars, bodyLength, len]
        simp only [List.map_cons, List.map_nil, List.foldl_cons, List.foldl_nil]
        rw [ends _ _ _ none (receive_completes (tag := none) (by simp only [RxFrame.size]; simp at total; omega)
          known short (by simp at total; simpa using total)), whole]
      | cons c rest =>
        simp only [List.map_cons, List.foldl_cons]
        rw [goes _ _ _ none (receive_goes_on (tag := none) (by simp only [RxFrame.size]; simp at total; omega)
          (fun n hn => ⟨by rw [announces n hn]; exact short, by rw [announces n hn]; simp at total; simp; omega⟩))]
        exact ih (seen ++ [b]) (by simpa using e) (by simp)
  exact main _ [] rfl (by simp [frameChars])

/-- Preamble and start character of a frame, at a receiver that hunts with an empty buffer (R149). -/
theorem receive_opening (tag : Option WindowTag) :
    receive none 0 tag (sendChar 0xFF) = .hunting ∧
      receive none 0 tag (sendChar 0x5A) = .assembling { chars := [], tag := tag } := by
  constructor
  · simp [receive]
  · simp [receive, Config.receiveBufferSize]

/-- A whole undamaged frame that arrives at a hunting receiver with an empty buffer, each frame checked at once: the
frame is checked, as one that began within the window open at its start (R149, R150). -/
theorem corridorChars_lineFrame {s : State} (hunting : s.line.assembly = none) (empty : s.line.unchecked = [])
    (address kind : Nat) (body : List Byte) (short : body.length ≤ Config.longestBody) :
    (lineFrame address kind body).foldl (State.corridorChar true) s
      = s.checkFrame { chars := frameChars address kind body, tag := s.line.openWindow } := by
  have stored : s.line.stored = 0 := by simp [Line.stored, empty]
  have hunt : State.corridorChar true s (sendChar 0xFF) = s := by
    simp only [State.corridorChar, hunting, stored, (receive_opening s.line.openWindow).1]
  have start : State.corridorChar true s (sendChar 0x5A)
      = s.setLine { s.line with assembly := some { chars := [], tag := s.line.openWindow } } := by
    simp only [State.corridorChar, hunting, stored, (receive_opening s.line.openWindow).2]
  simp only [lineFrame, List.map_append, List.map_cons, List.map_nil, List.foldl_append, List.foldl_cons,
    List.foldl_nil, hunt, start]
  refine receive_rest (State.corridorChar true) (fun f => s.setLine { s.line with assembly := some f })
    (fun f => s.checkFrame f) 0 ?_ ?_ address kind body _ short (by
      simp only [Config.longestBody, Config.receiveBufferSize] at *; omega)
  · intro f f' c tag h
    simp only [State.corridorChar, State.setLine_line]
    have : ({ s.line with assembly := some f } : Line).stored = 0 := stored
    have any : ∀ t, receive (some f) 0 t c = receive (some f) 0 tag c := fun t => rfl
    rw [this, any, h]
    rfl
  · intro f f' c tag h
    simp only [State.corridorChar, State.setLine_line]
    have : ({ s.line with assembly := some f } : Line).stored = 0 := stored
    have any : ∀ t, receive (some f) 0 t c = receive (some f) 0 tag c := fun t => rfl
    rw [this, any, h]
    simp only [if_true, State.setLine_line, empty, List.nil_append, List.length_cons, List.length_nil,
      State.checkFrames]
    have back : ((s.setLine { s.line with assembly := none, unchecked := [f'] }).setLine
        { s.line with assembly := none, unchecked := [] }) = s := by
      cases s with | _ =>
      rename_i l _ _ _ _
      cases l
      simp_all [State.setLine]
    exact congrArg (fun t => State.checkFrame t f') back

/-- A whole undamaged copy on the internal loop is compared with the frame sent last; no character error is counted
(R149, R163). -/
theorem loopChars_lineFrame {l : Line} {b : Loopback} (test : l.loopback = some b) (hunting : l.assembly = none)
    (address kind : Nat) (body : List Byte) (short : body.length ≤ Config.longestBody) :
    (lineFrame address kind body).foldl Line.loopChar l
      = { l with
          loopback := some
            (if b.matches_ { chars := frameChars address kind body, tag := none } && !b.thisMatched then
              { b with matched := b.matched + 1, thisMatched := true } else b) } := by
  have same : ∀ m : Line, m.loopback = some b → { m with loopback := some b } = m := by
    intro m h; cases m; simp_all
  have clear : { l with loopback := some b, assembly := none } = l := by
    cases l; simp_all
  have hunt : Line.loopChar l (sendChar 0xFF) = l := by
    simp only [Line.loopChar, test, hunting, (receive_opening none).1, goodChar_sendChar, if_true, Nat.add_zero]
    exact clear
  have start : Line.loopChar l (sendChar 0x5A) = { l with assembly := some { chars := [], tag := none } } := by
    simp only [Line.loopChar, test, hunting, (receive_opening none).2, goodChar_sendChar, if_true, Nat.add_zero]
  simp only [lineFrame, List.map_append, List.map_cons, List.map_nil, List.foldl_append, List.foldl_cons,
    List.foldl_nil, hunt, start]
  have goodOf : ∀ f f' c tag, receive (some f) 0 tag c = .assembling f' ∨ receive (some f) 0 tag c = .complete f' →
      goodChar c = true := by
    intro f f' c tag h
    cases hg : goodChar c with
    | true => rfl
    | false =>
      exfalso
      unfold receive at h
      simp only [hg, Bool.not_false, if_true] at h
      split at h <;> simp at h
  refine receive_rest Line.loopChar (fun f => { l with assembly := some f })
    (fun f => { l with
      loopback := some (if b.matches_ f && !b.thisMatched then
        { b with matched := b.matched + 1, thisMatched := true } else b) }) 0 ?_ ?_ address kind body _ short (by
      simp only [Config.longestBody, Config.receiveBufferSize] at *; omega)
  · intro f f' c tag h
    have any : receive (some f) 0 none c = receive (some f) 0 tag c := rfl
    simp only [Line.loopChar, test, goodOf f f' c tag (.inl h), if_true, Nat.add_zero, any, h]
  · intro f f' c tag h
    have any : receive (some f) 0 none c = receive (some f) 0 tag c := rfl
    simp only [Line.loopChar, test, goodOf f f' c tag (.inr h), if_true, Nat.add_zero, any, h]
    have still : ({ b with errors := b.errors } : Loopback) = b := rfl
    rw [still]
    split
    · rw [← hunting]
    · rw [clear]; exact (same l test).symm

end Sys2Proof.Machine
end

