-- ==== Sys2Proof/Laws/Requests.lean ====
section
/-! SUPPORT. The request path: when a request is taken, and everything a request's meaning can do (R180, R181). -/

namespace Sys2Proof.Machine

/-- A request is taken exactly when one stands at the head of the queue and none is being carried out. -/
theorem State.requestToTake_ok {s : State} {r : Request} :
    s.requestToTake = .ok r ↔ s.host.serving = false ∧ s.host.queue.head? = some r := by
  unfold State.requestToTake
  cases h : s.host.queue with
  | nil => simp
  | cons a q => cases hs : s.host.serving <;> simp

/-- All a request's meaning can do when it answers a next state: it takes the request of its kind at the head, and
leaves what its handler leaves, with the handler's reply. -/
theorem serve_next {kind : Nat} {handle : List Byte → State → Reply × State} {s t : State} :
    serve kind handle s = .next t ↔
      ∃ r, s.AtHead kind r.body r ∧ t = (handle r.body s).2.answer r (handle r.body s).1 := by
  unfold serve State.AtHead
  cases h : s.requestToTake with
  | error f =>
    simp only [reduceCtorEq, false_iff]
    rintro ⟨r, ⟨h1, h2, -⟩, -⟩
    rw [State.requestToTake_ok.2 ⟨h1, h2⟩] at h
    cases h
  | ok r =>
    obtain ⟨h1, h2⟩ := State.requestToTake_ok.1 h
    by_cases hk : r.kind.toNat = kind
    · simp only [hk, if_true, Host.Outcome.next.injEq]
      constructor
      · rintro rfl; exact ⟨r, ⟨h1, h2, hk, trivial⟩, rfl⟩
      · rintro ⟨r', ⟨-, h2', -, -⟩, rfl⟩
        rw [h2] at h2'
        cases h2'; rfl
    · simp only [hk, if_false, reduceCtorEq, false_iff]
      rintro ⟨r', ⟨-, h2', hk', -⟩, -⟩
      rw [h2] at h2'
      cases h2'; exact hk hk'

/-- A request at the head of the queue is answered by its handler. -/
theorem serve_atHead {kind : Nat} {handle : List Byte → State → Reply × State} {s : State} {r : Request}
    {body : List Byte} (h : s.AtHead kind body r) :
    serve kind handle s = .next ((handle body s).2.answer r (handle body s).1) := by
  obtain ⟨h1, h2, h3, rfl⟩ := h
  exact serve_next.2 ⟨r, ⟨h1, h2, h3, rfl⟩, rfl⟩

/-! ### The latches in READ JUNCTION's reply (R187) -/

@[simp] theorem EventLatch.uncounted_latched (l : EventLatch) : l.uncounted.latched = l.latched := rfl
@[simp] theorem EventLatch.uncounted_count (l : EventLatch) : l.uncounted.count = 0 := rfl

/-- A defined slot reports its latches as they stand. -/
theorem State.latchContent_defined {s : State} {k : Slot} (h : s.defined k = true) :
    s.latchContent k = (s.notices.slots.get k).report := if_pos h

/-- An undefined slot reports every event count 0, and its latched values as they stand. -/
theorem State.latchContent_undefined {s : State} {k : Slot} (h : s.defined k = false) :
    s.latchContent k = (s.notices.slots.get k).uncounted.report := if_neg (by simp [h])

end Sys2Proof.Machine
end

