-- ==== Sys2Proof/Tests/Slice0.lean ====
section
/-! SUPPORT. The model's own tests: ill-formed operands, the manual's worked sequences, and for each statement with
hypotheses a state and operands that meet them. Expected results are the manual's figures. -/

namespace Sys2Proof.Tests

-- One theorem at a time: checked all at once, this many small ones take more threads than the sandbox has.
set_option Elab.async false

open Sys2Proof.Machine Sys2Proof.Claims

/-! ### Well-formed operands -/

/-- A record is at most 246 bytes (R178). -/
theorem test_wellformed_refuses_long_record :
    (Instr.hostRecordReceived (List.replicate 247 0)).wellFormed = false := by decide +kernel

/-- A frame is at most 92 characters (R145). -/
theorem test_wellformed_refuses_long_frame :
    (Instr.corridorFrameReceived (List.replicate 93 ⟨0, false, true⟩) false true).wellFormed = false := by
  decide +kernel

/-- A looped copy is no longer than a frame (R145). -/
theorem test_wellformed_refuses_long_copy :
    (Instr.loopbackFrameReceived (List.replicate 93 ⟨0, false, true⟩)).wellFormed = false := by decide +kernel

/-- No lateness limit lies above 100 ds (R16). -/
theorem test_wellformed_refuses_late_beacon : (Instr.beaconBegin 101).wellFormed = false := by decide

/-- The longest operands that the lines can bring. -/
theorem test_wellformed_takes_the_longest :
    (Instr.hostRecordReceived (List.replicate 246 0)).wellFormed = true ∧ (Instr.beaconBegin 100).wellFormed = true :=
  by decide +kernel

/-- The table gives no bits to a row, so no word spells a command. -/
theorem test_no_word_spells_a_command : decodeTableWord 0 0 = none ∧ State.reset.withFetchWord 8 5 = State.reset := by
  decide

/-! ### The corridor of the manual's worked cases -/

/-- The four junctions of the worked derivation of 1.2, at the field addresses of 9.5. -/
def layout : PerSlot (Option JunctionDef) :=
  ((((PerSlot.fill none).set .k1 (some ⟨11, 0, 2, 2, 300, 350⟩)).set .k2 (some ⟨12, 560, 2, 2, 300, 300⟩)).set .k3
    (some ⟨13, 1130, 3, 2, 300, 300⟩)).set .k4 (some ⟨14, 1680, 2, 3, 1200, 300⟩)

/-- The plan of the worked case of 3.12. -/
def plan : PlanRecord :=
  { PlanRecord.blank with
    cycle := some 800
    green := ((((PerSlot.fill none).set .k1 (some 440)).set .k2 (some 400)).set .k3 (some 380)).set .k4 (some 460)
    sIn := some 139, sOut := some 125, ref := some .k4, oRef := some 100, loss := some 20, headway := some 20
    wIn := some 14, wOut := some 2 }

/-- Whether a slot is defined in the layout. -/
def laid (k : Slot) : Bool := (layout.get k).isSome

/-- The corridor Idle, with plan 1 the plan of 3.12. -/
def idle : State :=
  { State.reset with
    corridor := { State.reset.corridor with table := layout }
    plans := PlanTable.blank.set .p1 plan
    monitor := initialMonitor laid }

/-- The alignment memory of the example below R101: C = 800, lateness 3. -/
def memory : Memory := { sequence := 5, cycle := 800, lateness := 3, command := .run, slot := .d1, expected := .valid 421 }

/-- The corridor Running plan 1, every junction InStep and Aligned. -/
def running : State :=
  { idle with
    corridor :=
      { idle.corridor with state := .running, startingPlan := some .p1, capacity := deriveCapacities layout }
    clock := { masterTime := 100, sequence := 5, length := 800 }
    flow := { idle.flow with approaches := initialApproaches laid }
    transition :=
      { Transition.create laid with
        records := PerSlot.of fun k =>
          if laid k then some { TransitionRecord.initial with model := .valid 421, target := some 421, seek := .aligned }
          else none }
    monitor := PerSlot.of fun k =>
      if laid k then { StepRecord.initial with state := .inStep, memory := some memory } else .vacant
    directory :=
      { idle.directory with
        dirs := PerSlot.of fun k => if laid k then { Directory.initial with d1 := .valid .p1 } else .initial
        active := some .p1 } }

/-- The corridor Starting on plan 1, with no junction yet answered. -/
def starting : State :=
  { running with
    corridor := { running.corridor with state := .starting }
    monitor := initialMonitor laid
    directory := { running.directory with active := none, pending := some .p1, deadline := 2 } }

/-- The corridor Stopping. -/
def stopping : State := { running with corridor := { running.corridor with state := .stopping } }

/-- The state with a request at the head of an empty queue. -/
def asked (s : State) (kind : Nat) (body : List Byte) : State :=
  { s with host := { s.host with queue := [⟨BitVec.ofNat 8 kind, 7, body⟩], serving := false } }

/-- The request that `asked` puts at the head. -/
def req (kind : Nat) (body : List Byte) : Request := ⟨BitVec.ofNat 8 kind, 7, body⟩

theorem asked_atHead (s : State) {kind : Nat} (h : kind < 256) (body : List Byte) :
    (asked s kind body).AtHead kind body (req kind body) := by
  refine ⟨rfl, rfl, ?_, rfl⟩
  simp only [req, BitVec.toNat_ofNat]
  omega

/-- The next state, if the outcome is one. -/
def next : Result → Option State
  | .next t => some t
  | .fault _ => none
  | .refused _ => none

/-- A quality of the next state. -/
def after (r : Result) (ok : State → Bool) : Bool := (next r).any ok

/-- The body of the reply that joins the records for the host. -/
def reply (r : Result) : Option (List Byte) := (next r).bind fun t => t.host.outbox.getLast?.map fun o => o.body

/-! ### Figures the manual works out -/

/-- The published check value of "123456789" under the generator and start value of R146. -/
theorem test_crc_check_value :
    crc16 [0x31, 0x32, 0x33, 0x34, 0x35, 0x36, 0x37, 0x38, 0x39] = 0x29B1 := by decide +kernel

/-- The storage capacities of 1.2. -/
theorem test_storage_of_worked_derivation :
    (Slot.all.take 4).map (storageOf layout) = [⟨160, 100⟩, ⟨162, 160⟩, ⟨234, 162⟩, ⟨255, 234⟩] := by decide

/-- With slot 3 removed (1.2). -/
theorem test_storage_without_slot_3 :
    [Slot.k1, .k2, .k4].map (storageOf (layout.set .k3 none)) = [⟨160, 100⟩, ⟨255, 160⟩, ⟨255, 255⟩] := by decide

/-- The snapshot of the worked case of 3.12, slot 3 modelled at `o3`. -/
def snapshot (o3 : Nat) : Snapshot :=
  { sequence := 57, cycle := 800, sIn := 139, sOut := 125, ref := .k4, oRef := 100, loss := 20, headway := 20
    wIn := 14, wOut := 2, mode := .inbound, ratio := 30
    slots := ((((PerSlot.fill none).set .k1 (some ⟨0, 440, 5, 9, true, some 388⟩)).set .k2
      (some ⟨560, 400, 3, 1, true, some 21⟩)).set .k3 (some ⟨1130, 380, 4, 2, true, some o3⟩)).set .k4
      (some ⟨1680, 460, 9, 0, true, some 100⟩) }

/-- The chain of 3.12. -/
theorem test_offsets_of_worked_case :
    (Slot.all.take 5).map (snapshot 399).offsets.get = [some 388, some 21, some 399, some 100, none] := by
  decide +kernel

/-- The bands and shares of 3.12, with slot 3 at 260. -/
theorem test_bands_of_worked_case :
    (snapshot 260).results.designed = ⟨280, 262⟩ ∧ (snapshot 260).results.current = ⟨144, 123⟩ ∧
      (snapshot 260).results.designedShare = ⟨35, 32⟩ ∧ (snapshot 260).results.currentShare = ⟨18, 15⟩ ∧
      (snapshot 260).results.weight = 14 ∧ (snapshot 260).results.counted = 4 := by decide +kernel

/-- The walk over the others when slot 2 is not counted (3.12). -/
theorem test_bands_without_slot_2 :
    Snapshot.bands
      { snapshot 399 with
        slots := (snapshot 399).slots.modify .k2 (Option.map fun x => { x with counted := false }) }
      (fun p => (snapshot 399).computedAt p) = ⟨280, 287⟩ := by decide +kernel

/-- The three small walks of 3.12. -/
theorem test_second_green_and_empty_band :
    band 800 [⟨0, 200, 0, 600⟩, ⟨500, 300, 50, 350⟩] = 150 ∧ band 800 [⟨0, 200, 0, 600⟩, ⟨500, 300, 60, 700⟩] = 300 ∧
      band 800 [⟨0, 200, 0, 300⟩, ⟨500, 300, 50, 350⟩] = 0 := by decide +kernel

/-- The rows of 5.9: lengthening, shortening, a tie, and its neighbour. -/
theorem test_steer_worked_rows :
    [299, 139, 0, 731, 396, 540, 560].map (fun d => steer 800 d ⟨160, 80⟩) =
      [(.lengthening, 160), (.lengthening, 139), (.aligned, 0), (.shortening, -69), (.lengthening, 160),
       (.lengthening, 160), (.shortening, -80)] := by decide

/-- The skews of 5.9: 200 on an aligned entry, and -100 against a shortening of 30. -/
theorem test_skew_worked_rows :
    entrySkew 800 ⟨160, 80⟩ false .run 0 (some 200) = (.applied 160, 960) ∧
      entrySkew 800 ⟨160, 80⟩ false .run (-30) (some (-100)) = (.applied (-50), 720) := by decide

/-- Measured offsets (the example below R101, and 9.5). -/
theorem test_measured_offsets :
    measure memory 418 = 421 ∧ measure { memory with lateness := 12 } 1190 = 402 ∧
      measure { memory with lateness := 4 } 946 = 150 := by decide

/-- The fifth report of the slip window of 6.6: 796 against 25 is an error of -29. -/
theorem test_error_across_the_cycle_end : offsetError memory 796 25 = -29 := by decide

/-- The approach of 4.2 after its first seven reports, each one on the one before. -/
theorem test_approach_through_spillback_and_faults :
    let r := fun (a : Approach) (x : ApproachReport) => a.report 160 70 x
    let a3 := [⟨30, 22, 40, false, false, false⟩, ⟨35, 20, 75, false, false, false⟩,
      ⟨40, 18, 82, false, false, false⟩].foldl r Approach.initial
    let a5 := [⟨25, 30, 60, false, false, false⟩, ⟨20, 28, 55, true, false, false⟩].foldl r a3
    let a7 := [⟨26, 5, 45, false, false, true⟩, ⟨90, 24, 99, false, true, false⟩].foldl r a5
    a3.queue = 160 ∧ a3.spillback = true ∧ a5.queue = 0 ∧ a5.spillback = false ∧ a7.queue = 0 ∧ a7.low = 2 ∧
      (r a7 ⟨31, 20, 50, false, false, false⟩).queue = 11 := by decide

/-- The approach of 4.2 that reaches its storage by count. -/
theorem test_approach_reaches_storage :
    let a := { Approach.initial with queue := 90, low := 2 }
    let b := a.report 100 70 ⟨25, 10, 35, false, false, false⟩
    let c := b.report 100 70 ⟨5, 30, 20, false, false, false⟩
    b.queue = 100 ∧ b.reachedStorage = true ∧ b.spillback = true ∧ c.queue = 100 ∧ c.spillback = true ∧
      (c.report 100 70 ⟨8, 31, 18, true, false, false⟩).spillback = false := by decide

/-- The replacement bits of 7.7: uses of slots 1, 0, 1, 2 and 3. -/
theorem test_replacement_bits :
    let d := [DirSlot.d1, .d0, .d1, .d2].foldl Directory.use Directory.initial
    d.plru = .d0 ∧ d.bitB = true ∧ (d.use .d3).plru = .d0 ∧ (d.use .d3).victims = [.d0, .d1, .d2, .d3] := by decide

/-- The directory of slot 2 in 7.7 when SWITCH PLAN 7 comes: slot 2 is the victim, and with slot 3 Stale, slot 3. -/
theorem test_placement_of_a_switch :
    let d : Directory :=
      { d0 := .valid .p1, d1 := .valid .p3, d2 := .valid .p5, d3 := .valid .p6, top := false, bitA := false
        bitB := false }
    let s := fun (d : Directory) =>
      { running with
        corridor := { running.corridor with settings := { running.corridor.settings with fallback := some .p1 } }
        directory :=
          { running.directory with dirs := running.directory.dirs.set .k2 d, active := some .p3, pending := some .p7 } }
    (s d).place .k2 .p7 = some .d2 ∧ (s { d with d3 := .stale .p6 }).place .k2 .p7 = some .d3 := by decide +kernel

/-- The header and entries of the beacon of 9.5, by the layout of R200, with lateness 2. -/
theorem test_beacon_of_worked_sequence :
    let b : Beacon :=
      { sequence := 57, cycle := 800, plan := some .p3, stopping := false
        entries := [⟨11, .run, .d1, 800⟩, ⟨12, .free, .d0, 800⟩, ⟨13, .run, .d2, 960⟩, ⟨14, .free, .d0, 800⟩] }
    b.body 2 = [57, 3, 32, 3, 2, 4, 11, 0x81, 3, 32, 12, 0, 3, 32, 13, 0x82, 3, 192, 14, 0, 3, 32] := by
  decide +kernel

/-- A removed slot's latched value stands in READ JUNCTION's reply, and its event count is 0 (R187, 10.5). -/
theorem test_undefined_slot_reports_no_count :
    let slips : SlotLatches := { SlotLatches.clear with slip := { latched := true, count := 3, data := none } }
    let s : State := { idle with notices := { idle.notices with slots := PerSlot.fill slips } }
    (s.latchContent .k12).take 4 = [0, 0, 1, 0] ∧ (s.latchContent .k1).take 4 = [0, 0, 1, 3] := by decide

/-- A character carries odd parity over its data and parity bits (R144). -/
theorem test_odd_parity : (sendChar 0x5A).parity = true ∧ (sendChar 0x01).parity = false := by decide

/-! ### Witnesses: a state and operands that meet the hypotheses of each statement

Each theorem is named for its statement under `Obligations`; a statement of several clauses has one for each, at the
ends of its ranges. -/

/-- A statement about every slot, from the slots one by one. -/
theorem every {P : Slot → Prop} (h : ∀ k ∈ Slot.all, P k) : ∀ k, P k := fun k => h k (Slot.mem_all k)

theorem witness_StepTakesTheFrontCommand :
    ({ idle with pending := [.coldReset, .identify] } : State).pending = .coldReset :: [.identify] := rfl

theorem witness_EmptyQueueStepIsOneDecisecond :
    (idle.pending = [] ∧ idle.corridor.state = .idle) ∧
      (running.pending = [] ∧ running.corridor.state ≠ .idle ∧ running.eventDue = false) ∧
      ({ running with clock := { running.clock with masterTime := 799 } } : State).eventDue = true := by decide

/-- A Running corridor with IDENTIFY taken next. -/
def busy : State := { asked running 0x01 [] with pending := [.identify] }

theorem busy_steps : ∃ t, step busy = .next t := ⟨_, rfl⟩

theorem witness_LayoutFormIsKept : LayoutForm busy.corridor.table ∧ ∃ t, step busy = .next t := by
  refine ⟨⟨every ?_, ?_⟩, busy_steps⟩
  · show ∀ k ∈ Slot.all, ∀ d ∈ layout.get k, _
    decide
  · have h : ∀ j ∈ Slot.all, ∀ k ∈ Slot.all, ∀ a ∈ layout.get j, ∀ b ∈ layout.get k, j.num < k.num →
        a.address ≠ b.address ∧ a.position < b.position := by decide
    exact fun j k a b ha hb => h j (Slot.mem_all j) k (Slot.mem_all k) a ha b hb

theorem witness_SettingsAndQueuesStayInBounds :
    (∃ t, step busy = .next t) ∧ SettingsInRange busy.corridor.settings ∧ QueuesBounded busy :=
  ⟨busy_steps, fun i => by cases i <;> decide, by decide, by decide, by decide⟩

theorem witness_PlanStateStaysLegal : PlanStateLegal busy ∧ ∃ t, step busy = .next t :=
  ⟨⟨by decide, by decide, by decide, by decide, by decide, fun p h => by cases h⟩, busy_steps⟩

theorem witness_QueueEstimatesStayLegal : FlowLegal busy ∧ ∃ t, step busy = .next t := by
  refine ⟨⟨fun h => absurd h (by decide), every ?_⟩, busy_steps⟩
  show ∀ k ∈ Slot.all, ∀ b ∈ busy.flow.approaches.get k, (_ ∧ _) ∧ (_ ∧ _)
  decide

theorem records_running : RecordsLegal running := by
  refine ⟨every ?_, every ?_, every ?_, .nil⟩ <;> decide +kernel

theorem witness_RecordsFollowTheLayout : RecordsLegal busy ∧ ∃ t, step busy = .next t := ⟨records_running, busy_steps⟩

/-- With no download ordered, a slot Loading or a fallback plan set, the directories are legal. -/
theorem plain_directories {s : State} (ho : s.directory.orders = []) (hf : s.corridor.settings.fallback = none)
    (hl : ∀ k x p mark prior, (s.directory.dirs.get k).get x ≠ .loading p mark prior) : DirectoryLegal s := by
  refine ⟨fun k x p m c h => absurd h (hl k x p m c), fun o h => ?_, fun _ o h => ?_, fun f k x q h => ?_⟩
  · rw [ho] at h; nomatch h
  · rw [ho] at h; nomatch h
  · rw [hf] at h; cases h

/-- A Running corridor with plan 3 its fallback plan, held in slot 0 of junction 1; plan 2 is on its way to junction 2,
and the end of its window comes next. -/
def locked : State :=
  { running with
    corridor := { running.corridor with settings := { running.corridor.settings with fallback := some .p3 } }
    directory := { running.directory with
      dirs := (running.directory.dirs.set .k1 { Directory.initial with d0 := .valid .p3, d1 := .valid .p1 }).set .k2
        { Directory.initial with d1 := .valid .p1, d3 := .loading .p2 true (.stale .p1) }
      orders := [⟨.k2, .p2, .onLine, 1, some .d3, none, false⟩] }
    line := { running.line with
      transmitter := .awaiting, beacon := .sent
      exchange := some { kind := .download, slot := .k2, address := 12, attempt := 1, window := some 0 } }
    pending := [.replyTimeout] }

theorem locked_legal : DirectoryLegal locked := by
  have one : ∀ k ∈ Slot.all, ∀ x ∈ DirSlot.all, ¬ (k = .k2 ∧ x = .d3) →
      (match (locked.directory.dirs.get k).get x with | .loading _ _ _ => true | _ => false) = false := by
    decide +kernel
  refine ⟨fun k x p m c h => ?_, fun o ho x hs => ?_, fun h => absurd h (by decide), fun f k x q hf => ?_⟩
  · by_cases e : k = .k2 ∧ x = .d3
    · obtain ⟨rfl, rfl⟩ := e
      cases (show SlotContent.loading .p2 true (.stale .p1) = .loading p m c from h)
      refine ⟨_, List.mem_singleton.2 rfl, rfl, rfl, rfl, fun f q hf hq => .inl ?_⟩
      cases hf; cases hq; unfold KeepsLock; decide
    · have := one k (Slot.mem_all k) x (DirSlot.mem_all x) e
      rw [h] at this
      cases this
  · cases List.mem_singleton.1 ho
    exact absurd rfl hs
  · cases hf
    have h : ∀ k ∈ Slot.all, ∀ x ∈ DirSlot.all, ∀ q ∈ ((locked.directory.dirs.get k).get x).plan,
        (q = .p3 ↔ x = .d0) := by decide +kernel
    exact h k (Slot.mem_all k) x (DirSlot.mem_all x) q

/-- A download on line under the lock of slot 0, with a legal transmit queue; and a beacon that waits, one that is sent,
and a stopping one. -/
theorem witness_DirectoriesStayLegal :
    (RecordsLegal locked ∧ BeaconLegal locked ∧ DirectoryLegal locked ∧ ∃ t, step locked = .next t) ∧
      BeaconLegal (running.cycleZero 6) ∧
      BeaconLegal { stopping with line := { stopping.line with beacon := .sending ⟨6, 800, some .p1, [], true⟩ } } := by
  have empty : ∀ c, TxFrame.beacon c ∉ ([] : List TxFrame) := fun c h => nomatch h
  have records : RecordsLegal locked := by
    refine ⟨every ?_, every ?_, every ?_, ?_⟩ <;> decide +kernel
  exact ⟨⟨records, empty, locked_legal, _, rfl⟩, ⟨by decide, _, _, rfl, empty, fun h => absurd h (by decide +kernel)⟩,
    ⟨by decide, empty, fun _ => rfl⟩⟩

/-- A host link whose request queue and refusal list are full. -/
def full : HostLink :=
  { State.reset.host with
    queue := List.replicate 4 (req 1 []), outbox := List.replicate 4 ⟨.refusal, 0x81, 7, [13]⟩ }

theorem witness_WholeRecordIsReceived :
    ((List.replicate 240 (0 : Byte)).length ≤ 240 ∧ idle.host.framer = none ∧ idle.host.queue.length < 4) ∧
      (full.framer = none ∧ ¬ full.queue.length < 4 ∧ ¬ full.refusals < 4) ∧
      ({ full with outbox := [] } : HostLink).refusals < 4 := by decide +kernel

/-- A wrong CRC, lengths on both sides of their range, a gap, and a byte that is no sync; HOST_FRAME_ERROR masked,
unmasked with one place left in the notice queue, and unmasked with none. -/
theorem witness_DamagedRecordsAreDiscarded :
    let n : Notice := ⟨.hostFrameError .crc, none, ⟨0, none, none⟩, false⟩
    let u : Nat → NoticeUnit := fun k =>
      { idle.notices with masks := { Masks.allMasked with hostFrameError := true }, queue := List.replicate k n }
    ([] : List Byte).length ≤ 240 ∧ idle.host.framer = none ∧ [(0 : Byte), 0] ≠ crcBytes [2, 1, 5] ∧
      (1 : Byte).toNat < 2 ∧ 242 < (243 : Byte).toNat ∧ (0x5A : Byte) ≠ 0xA5 ∧
      ({ idle.host with framer := some [] } : HostLink).framer ≠ none ∧ idle.notices.masks.hostFrameError = false ∧
      (u 31).masks.hostFrameError = true ∧ (u 31).queue.length < 32 ∧ 32 ≤ (u 32).queue.length := by decide +kernel

theorem witness_HostRecordsGoOut :
    (full.sending = none ∧ ∃ o rest, full.outbox = o :: rest) ∧
      (∃ n : Notice, idle.host.sending = none ∧ idle.host.outbox = [] ∧
        ({ idle.notices with queue := [n] } : NoticeUnit).queue = n :: []) ∧
      ({ idle.host with sending := some ⟨.reply, []⟩ } : HostLink).sending = some ⟨.reply, []⟩ ∧
      ({ idle.host with sending := some ⟨.notice idle.stamp, []⟩ } : HostLink).sending = some ⟨.notice idle.stamp, []⟩ :=
  ⟨⟨rfl, _, _, rfl⟩, ⟨⟨.hostFrameError .crc, none, ⟨0, none, none⟩, false⟩, rfl, rfl, rfl⟩, rfl, rfl⟩

/-- The bytes of an item of field code 12 are accounted for by no items. -/
theorem field_code_12 (rest : List Byte) : ¬ Accounted (12 :: rest) := by
  rintro ⟨items, -, h⟩
  match items, h with
  | .value f v :: _, h =>
    have h' := (List.cons.inj h).1
    cases f <;> exact absurd h' (by decide)
  | .green _ _ :: _, h => exact absurd (List.cons.inj h).1 (by decide)
  | .image _ _ :: _, h => exact absurd (List.cons.inj h).1 (by decide)

/-- Both ends of the kinds that are in no catalogue; a fixed body one byte short, items cut off, an unknown field code,
and a payload one byte short of its length. -/
theorem witness_RequestKindAndLengthAreChecked :
    ((asked idle 0 []).host.serving = false ∧ (asked idle 0 []).host.queue.head? = some (req 0 []) ∧
        (req 0 []).kind.toNat = 0) ∧
      ((asked idle 0x17 []).host.serving = false ∧ (asked idle 0x17 []).host.queue.head? = some (req 0x17 []) ∧
        0x16 < (req 0x17 []).kind.toNat) ∧
      ((Instr.identify, 0x01, 0) ∈ fixedRequests ∧ (req 0x01 [0]).kind.toNat = 0x01 ∧ (req 0x01 [0]).body.length ≠ 0) ∧
      ((Instr.defineJunction, 0x05, 10) ∈ fixedRequests ∧ (req 0x05 (List.replicate 9 0)).body.length ≠ 10) ∧
      ((req 0x03 [1]).kind.toNat = 0x03 ∧ (req 0x03 [1]).body.length % 2 ≠ 0) ∧
      ((req 0x0A [1, 0]).kind.toNat = 0x0A ∧ (req 0x0A [1, 0]).body.length % 3 ≠ 0) ∧
      ((req 0x08 [1]).kind.toNat = 0x08 ∧ (∀ p erase items, Accounted items → (req 0x08 [1]).body ≠ p :: erase :: items) ∧
        ∀ p erase items, Accounted items → (req 0x08 [1, 0, 12, 0, 0]).body ≠ p :: erase :: items) ∧
      (req 0x16 [1, 2, 0]).kind.toNat = 0x16 ∧
        ∀ n length payload, length.toNat = payload.length → (req 0x16 [1, 2, 0]).body ≠ n :: length :: payload := by
  refine ⟨by decide, by decide, ⟨by simp [fixedRequests], by decide, by decide⟩,
    ⟨by simp [fixedRequests], by decide⟩, by decide, by decide, ⟨by decide, ?_, ?_⟩, by decide, ?_⟩
  · simp [req]
  · rintro p erase items h ⟨⟩
    exact field_code_12 _ h
  · rintro n length payload h ⟨⟩
    exact absurd h (by decide)

/-- Each reading request, slots and plans at both ends of their ranges. -/
theorem witness_ReadsReportAndChangeNothing :
    (asked idle 0x01 []).AtHead 0x01 [] (req 0x01 []) ∧ (asked idle 0x0B []).AtHead 0x0B [] (req 0x0B []) ∧
      (NoSlot 13 ∧ (asked idle 0x07 [13]).AtHead 0x07 [13] (req 0x07 [13])) ∧
      (IsSlot 12 .k12 ∧ (running.monitor.get .k12).window.length ≤ 6 ∧
        (asked running 0x07 [12]).AtHead 0x07 [12] (req 0x07 [12])) ∧
      ((16 : Byte).toNat = PlanNo.p16.num ∧ (asked idle 0x09 [16, 0]).AtHead 0x09 [16, 0] (req 0x09 [16, 0])) ∧
      (IsSlot 1 .k1 ∧ (asked idle 0x09 [16, 1]).AtHead 0x09 [16, 1] (req 0x09 [16, 1])) ∧
      (16 < (17 : Byte).toNat ∧ (asked idle 0x09 [17, 0]).AtHead 0x09 [17, 0] (req 0x09 [17, 0])) ∧
      (12 < (13 : Byte).toNat ∧ (asked idle 0x09 [1, 13]).AtHead 0x09 [1, 13] (req 0x09 [1, 13])) ∧
      (idle.corridor.state = .idle ∧ (asked idle 0x15 []).AtHead 0x15 [] (req 0x15 [])) ∧
      running.corridor.state ≠ .idle ∧ (asked running 0x15 []).AtHead 0x15 [] (req 0x15 []) := by
  unfold NoSlot IsSlot
  exact ⟨asked_atHead _ (by decide) _, asked_atHead _ (by decide) _, ⟨by decide, asked_atHead _ (by decide) _⟩,
    ⟨by decide, by decide, asked_atHead _ (by decide) _⟩, ⟨by decide, asked_atHead _ (by decide) _⟩,
    ⟨by decide, asked_atHead _ (by decide) _⟩, ⟨by decide, asked_atHead _ (by decide) _⟩,
    ⟨by decide, asked_atHead _ (by decide) _⟩, ⟨by decide, asked_atHead _ (by decide) _⟩, by decide,
    asked_atHead _ (by decide) _⟩

theorem witness_StatusReportsThenClears : (asked running 0x02 []).AtHead 0x02 [] (req 0x02 []) :=
  asked_atHead _ (by decide) _

/-- The lowest and the highest kind, unmasked and masked; and after one good item kind 9, kind 18, mask code 2 and a
kind named twice. -/
theorem witness_MasksAreSetAsTheItemsSay :
    (asked running 0x03 [1, 1, 17, 0]).AtHead 0x03 [1, 1, 17, 0] (req 0x03 [1, 1, 17, 0]) ∧
      readMaskItems [1, 1, 17, 0] = some [(1, 1), (17, 0)] ∧ ([(1, 1), (17, 0)].map Prod.fst : List Nat).Nodup ∧
      (∀ x ∈ ([(1, 1), (17, 0)] : List (Nat × Nat)), MaskItem x) ∧
      (asked running 0x03 [1, 1, 9, 1]).AtHead 0x03 [1, 1, 9, 1] (req 0x03 [1, 1, 9, 1]) ∧
      readMaskItems [1, 1, 9, 1] = some ([(1, 1)] ++ (9, 1) :: []) ∧ ([(1, 1)].map Prod.fst : List Nat).Nodup ∧
      (¬ MaskItem (9, 1) ∧ ¬ MaskItem (18, 0) ∧ ¬ MaskItem (17, 2) ∧ (1, 0).1 ∈ ([(1, 1)].map Prod.fst : List Nat)) := by
  unfold MaskItem
  exact ⟨asked_atHead _ (by decide) _, by decide, by decide, by decide, asked_atHead _ (by decide) _, by decide,
    by decide, by decide⟩

theorem witness_WarmResetClearsAndKeeps : (asked stopping 0x04 []).AtHead 0x04 [] (req 0x04 []) :=
  asked_atHead _ (by decide) _

/-! #### The layout, the plans and the settings -/

/-- A definition of slot 5 with every field at an end of its range: the bytes, and the definition they carry. -/
def newJunction : List Byte := [5, 31, 78, 32, 1, 4, 0, 50, 7, 208]

/-- A definition that passes every check has no field out of its range. -/
theorem no_field_out {j : JunctionDef} (h : j.checks.all id = true) : ∀ n, ¬ FieldOut j n := by
  intro n
  simp only [JunctionDef.checks, inRange, List.all_cons, List.all_nil, id, Bool.and_eq_true, decide_eq_true_eq] at h
  unfold FieldOut
  split <;> first | omega | exact id

/-- Each check of R2 in turn: the first and the last field out of range, the address of slot 4 and its position. -/
theorem witness_DefinitionIsChecked :
    ((asked running 0x05 newJunction).AtHead 0x05 newJunction (req 0x05 newJunction) ∧
        running.corridor.state ≠ .idle) ∧
      (idle.corridor.state = .idle ∧ NoSlot 0 ∧ NoSlot 13 ∧ IsSlot 5 .k5) ∧
      (readJunctionDef [5, 0, 78, 32, 1, 4, 0, 50, 7, 208] = some (5, ⟨0, 20000, 1, 4, 50, 2000⟩) ∧
        FieldOut ⟨0, 20000, 1, 4, 50, 2000⟩ 1) ∧
      (readJunctionDef [5, 31, 78, 32, 1, 4, 0, 50, 7, 209] = some (5, ⟨31, 20000, 1, 4, 50, 2001⟩) ∧
        FieldOut ⟨31, 20000, 1, 4, 50, 2001⟩ 6 ∧ ∀ m, m < 6 → ¬ FieldOut ⟨31, 20000, 1, 4, 50, 2001⟩ m) ∧
      (∀ n, ¬ FieldOut ⟨14, 20000, 1, 4, 50, 2000⟩ n) ∧
      (∃ i d, i ≠ Slot.k5 ∧ idle.corridor.table.get i = some d ∧ d.address = 14) ∧
      (∀ n, ¬ FieldOut ⟨31, 1680, 1, 4, 50, 2000⟩ n) ∧
      (∀ i d, i ≠ Slot.k5 → idle.corridor.table.get i = some d → d.address ≠ 31) ∧
      (∃ i d, NearestBelow idle .k5 i d ∧ 1680 ≤ d.position) ∧
      ∃ i d, NearestAbove { idle with corridor := { idle.corridor with table := layout.set .k1 none } } .k1 i d ∧
        d.position ≤ 560 := by
  refine ⟨⟨asked_atHead _ (by decide) _, by decide⟩, ⟨rfl, .inl rfl, .inr (by decide), rfl⟩,
    ⟨by decide, by simp [FieldOut]⟩, ⟨by decide, by simp [FieldOut], ?_⟩, no_field_out (by decide),
    ⟨.k4, _, by decide, rfl, rfl⟩, no_field_out (by decide), ?_, ⟨.k4, _, ⟨rfl, by decide, every ?_⟩, by decide⟩,
    .k2, _, ⟨rfl, by decide, every ?_⟩, by decide⟩
  · intro m hm
    match m, hm with
    | 0, _ | 1, _ | 2, _ | 3, _ | 4, _ | 5, _ => simp [FieldOut]
  · have h : ∀ i ∈ Slot.all, ∀ d ∈ layout.get i, d.address ≠ 31 := by decide
    exact fun i d _ e => h i (Slot.mem_all i) d e
  · show ∀ m ∈ Slot.all, Slot.k4.num < m.num → m.num < Slot.k5.num → layout.get m = none
    decide
  · show ∀ m ∈ Slot.all, Slot.k1.num < m.num → m.num < Slot.k2.num → (layout.set .k1 none).get m = none
    decide

/-- The hypotheses of DefinitionIsStored in `idle`. -/
def Acceptable (body : List Byte) (b : Byte) (k : Slot) (j : JunctionDef) : Prop :=
  (asked idle 0x05 body).AtHead 0x05 body (req 0x05 body) ∧ readJunctionDef body = some (b, j) ∧ IsSlot b k ∧
    idle.corridor.state = .idle ∧
    (1 ≤ j.address ∧ j.address ≤ 31 ∧ j.position ≤ 20000 ∧ 1 ≤ j.lanesIn ∧ j.lanesIn ≤ 4 ∧ 1 ≤ j.lanesOut ∧
      j.lanesOut ≤ 4 ∧ 50 ≤ j.lengthIn ∧ j.lengthIn ≤ 2000 ∧ 50 ≤ j.lengthOut ∧ j.lengthOut ≤ 2000) ∧
    (∀ i d, i ≠ k → idle.corridor.table.get i = some d → d.address ≠ j.address) ∧
    (∀ i d, idle.corridor.table.get i = some d → i.num < k.num →
      (∀ m : Slot, i.num < m.num → m.num < k.num → idle.corridor.table.get m = none) → d.position < j.position) ∧
    (∀ i d, idle.corridor.table.get i = some d → k.num < i.num →
      (∀ m : Slot, k.num < m.num → m.num < i.num → idle.corridor.table.get m = none) → j.position < d.position)

/-- The neighbours may be checked slot by slot. -/
theorem acceptable {body : List Byte} {b : Byte} {k : Slot} {j : JunctionDef}
    (hr : readJunctionDef body = some (b, j)) (hk : IsSlot b k)
    (hj : 1 ≤ j.address ∧ j.address ≤ 31 ∧ j.position ≤ 20000 ∧ 1 ≤ j.lanesIn ∧ j.lanesIn ≤ 4 ∧ 1 ≤ j.lanesOut ∧
      j.lanesOut ≤ 4 ∧ 50 ≤ j.lengthIn ∧ j.lengthIn ≤ 2000 ∧ 50 ≤ j.lengthOut ∧ j.lengthOut ≤ 2000)
    (h : ∀ i ∈ Slot.all, ∀ d ∈ layout.get i, (i ≠ k → d.address ≠ j.address) ∧
      (i.num < k.num → d.position < j.position) ∧ (k.num < i.num → j.position < d.position)) :
    Acceptable body b k j :=
  ⟨asked_atHead _ (by decide) _, hr, hk, rfl, hj, fun i d n e => (h i (Slot.mem_all i) d e).1 n,
    fun i d e l _ => (h i (Slot.mem_all i) d e).2.1 l, fun i d e l _ => (h i (Slot.mem_all i) d e).2.2 l⟩

/-- A slot that is not defined, every field at an end of its range; slot 2 again with its own field address; and slot 2
with another one. -/
theorem witness_DefinitionIsStored :
    (Acceptable newJunction 5 .k5 ⟨31, 20000, 1, 4, 50, 2000⟩ ∧ idle.corridor.table.get .k5 = none) ∧
      (Acceptable [2, 12, 2, 49, 2, 2, 1, 44, 1, 44] 2 .k2 ⟨12, 561, 2, 2, 300, 300⟩ ∧
        ∃ old, idle.corridor.table.get .k2 = some old ∧ old.address = 12) ∧
      (Acceptable [2, 1, 2, 48, 2, 2, 1, 44, 1, 44] 2 .k2 ⟨1, 560, 2, 2, 300, 300⟩ ∧
        ∃ old, idle.corridor.table.get .k2 = some old ∧ old.address ≠ 1) :=
  ⟨⟨acceptable (by decide) (by unfold IsSlot; decide) (by decide) (by decide), rfl⟩,
    ⟨acceptable (by decide) (by unfold IsSlot; decide) (by decide) (by decide), _, rfl, rfl⟩,
    acceptable (by decide) (by unfold IsSlot; decide) (by decide) (by decide), _, rfl, by decide⟩

/-- Each check of R4 in turn, slot numbers at both ends. -/
theorem witness_RemovalDiscardsTheSlot :
    ((asked running 0x06 [1]).AtHead 0x06 [1] (req 0x06 [1]) ∧ running.corridor.state ≠ .idle) ∧
      ((asked idle 0x06 [0]).AtHead 0x06 [0] (req 0x06 [0]) ∧ idle.corridor.state = .idle ∧ NoSlot 0 ∧ NoSlot 13) ∧
      ((asked idle 0x06 [12]).AtHead 0x06 [12] (req 0x06 [12]) ∧ IsSlot 12 .k12 ∧
        idle.corridor.table.get .k12 = none) ∧
      ((asked idle 0x06 [1]).AtHead 0x06 [1] (req 0x06 [1]) ∧ IsSlot 1 .k1 ∧ idle.corridor.table.get .k1 ≠ none) := by
  unfold NoSlot IsSlot
  exact ⟨⟨asked_atHead _ (by decide) _, by decide⟩, ⟨asked_atHead _ (by decide) _, by decide, by decide, by decide⟩,
    ⟨asked_atHead _ (by decide) _, by decide, by decide⟩, asked_atHead _ (by decide) _, by decide, by decide⟩

/-- The plan of 3.12 is complete and within its own limits. -/
theorem plan_limits :
    idle.plans.get .p1 ≠ PlanRecord.blank ∧
      (∀ c k g, (idle.plans.get .p1).cycle = some c → (idle.plans.get .p1).green.get k = some g → g + 100 ≤ c) ∧
      (∀ c o, (idle.plans.get .p1).cycle = some c → (idle.plans.get .p1).oRef = some o → o < c) := by
  refine ⟨by decide, fun c k g hc => ?_, fun c o hc ho => ?_⟩
  · have h : ∀ k ∈ Slot.all, ∀ g ∈ plan.green.get k, g + 100 ≤ 800 := by decide
    cases hc
    exact h k (Slot.mem_all k) g
  · cases hc; cases ho; decide

/-- The lowest s_in, the highest W_out, the reference slot of a plan in use, the greatest O_ref, and a blank plan. -/
theorem witness_TuningWriteStoresTheField :
    ((asked running 0x08 [1, 0, 4, 0, 30]).AtHead 0x08 [1, 0, 4, 0, 30] (req 0x08 [1, 0, 4, 0, 30]) ∧
        (1 : Byte).toNat = PlanNo.p1.num ∧ readU16 0 30 = 30) ∧
      ((asked running 0x08 [1, 0, 11, 0, 7]).AtHead 0x08 [1, 0, 11, 0, 7] (req 0x08 [1, 0, 11, 0, 7]) ∧
        readU16 0 7 = 7) ∧
      ((asked running 0x08 [1, 0, 6, 0, 1]).AtHead 0x08 [1, 0, 6, 0, 1] (req 0x08 [1, 0, 6, 0, 1]) ∧
        readU16 0 1 = Slot.k1.num ∧ running.corridor.table.get .k1 ≠ none) ∧
      ((asked running 0x08 [1, 0, 7, 3, 31]).AtHead 0x08 [1, 0, 7, 3, 31] (req 0x08 [1, 0, 7, 3, 31]) ∧
        readU16 3 31 = 799 ∧ 799 < (running.plans.get .p1).cycle.getD 2400) ∧
      ((asked idle 0x08 [2, 0, 7, 9, 95]).AtHead 0x08 [2, 0, 7, 9, 95] (req 0x08 [2, 0, 7, 9, 95]) ∧
        readU16 9 95 = 2399 ∧ 2399 < (idle.plans.get .p2).cycle.getD 2400 ∧ idle.plans.get .p2 = PlanRecord.blank) ∧
      running.plans.get .p1 ≠ PlanRecord.blank ∧
      (∀ c k g, (running.plans.get .p1).cycle = some c → (running.plans.get .p1).green.get k = some g → g + 100 ≤ c) ∧
      (∀ c o, (running.plans.get .p1).cycle = some c → (running.plans.get .p1).oRef = some o → o < c) :=
  ⟨⟨asked_atHead _ (by decide) _, by decide, by decide⟩, ⟨asked_atHead _ (by decide) _, by decide⟩,
    ⟨asked_atHead _ (by decide) _, by decide, by decide⟩, ⟨asked_atHead _ (by decide) _, by decide, by decide⟩,
    ⟨asked_atHead _ (by decide) _, by decide, by decide, by decide⟩, plan_limits⟩

/-- The greatest cycle length, for plan 1 in Idle. -/
theorem witness_CycleWriteMarksEveryCopy :
    (asked idle 0x08 [1, 0, 1, 9, 96]).AtHead 0x08 [1, 0, 1, 9, 96] (req 0x08 [1, 0, 1, 9, 96]) ∧
      (1 : Byte).toNat = PlanNo.p1.num ∧ readU16 9 96 = 2400 ∧ ¬ InUse idle .p1 ∧
      idle.directory.pending ≠ some .p1 ∧ idle.plans.get .p1 ≠ PlanRecord.blank ∧
      (∀ k g, (idle.plans.get .p1).green.get k = some g → g + 100 ≤ 2400) ∧
      (∀ o, (idle.plans.get .p1).oRef = some o → o < 2400) := by
  refine ⟨asked_atHead _ (by decide) _, by decide, by decide, by unfold InUse; decide, by decide, by decide,
    fun k g => ?_, fun o h => ?_⟩
  · have h : ∀ k ∈ Slot.all, ∀ g ∈ plan.green.get k, g + 100 ≤ 2400 := by decide
    exact h k (Slot.mem_all k) g
  · cases h; decide

/-- A write of four items, each at an end of its range. -/
def items : List PlanItem := [.green 12 700, .value .oRef 799, .image 1 (List.replicate 48 0), .value .cycle 800]

/-- The record that they leave of a blank one. -/
def itemsStored : PlanRecord :=
  { PlanRecord.blank with
    cycle := some 800, oRef := some 799, green := (PerSlot.fill none).set .k12 (some 700)
    image := (PerSlot.fill []).set .k1 (List.replicate 48 0) }

/-- Four items on an erased record, structural, and no items at all, which is not. -/
theorem witness_AcceptedWriteStoresItsItems :
    ((asked idle 0x08 (2 :: boolByte true :: items.flatMap itemBytes)).AtHead 0x08
          (2 :: boolByte true :: items.flatMap itemBytes) (req 0x08 (2 :: boolByte true :: items.flatMap itemBytes)) ∧
        (2 : Byte).toNat = PlanNo.p2.num ∧ (items.Pairwise fun i j => i.sameField j = false) ∧
        Stores PlanRecord.blank items itemsStored ∧ (∀ i ∈ items, ItemFits idle .p2 itemsStored i) ∧
        RecordFits itemsStored ∧ Structural true items ∧ Writable idle .p2) ∧
      ((asked running 0x08 [1, 0]).AtHead 0x08 (1 :: boolByte false :: ([] : List PlanItem).flatMap itemBytes)
          (req 0x08 [1, 0]) ∧ Stores plan [] plan ∧ RecordFits plan ∧ ¬ Structural false []) := by
  refine ⟨⟨asked_atHead _ (by decide) _, by decide, by decide, ⟨?_, ?_, ?_, ?_, ?_, ?_⟩, ?_, ⟨?_, ?_⟩,
    .inl rfl, by unfold Writable InUse; decide⟩, asked_atHead _ (by decide) _, ?_, plan_limits.2, ?_⟩
  · intro f v h
    cases f <;> simp [items] at h <;> simp [h, itemsStored, fieldOf]
  · intro f h
    cases f
    case cycle => exact absurd (by simp [items]) (h 800)
    case oRef => exact absurd (by simp [items]) (h 799)
    all_goals rfl
  · intro k v h
    cases k <;> simp [items, Slot.num] at h <;> simp [h, itemsStored, PerSlot.get, PerSlot.set, PerSlot.fill]
  · intro k h
    cases k
    case k12 => exact absurd (by simp [items, Slot.num]) (h 700)
    all_goals rfl
  · intro k v h
    cases k <;> simp [items, Slot.num] at h <;> simp [h, itemsStored, PerSlot.get, PerSlot.set, PerSlot.fill]
  · intro k h
    cases k
    case k1 => exact absurd (by simp [items, Slot.num]) (h (List.replicate 48 0))
    all_goals rfl
  · intro i h
    simp only [items, List.mem_cons, List.not_mem_nil, or_false] at h
    rcases h with rfl | rfl | rfl | rfl <;> simp [ItemFits, ValueOut, itemsStored, fieldCode]
  · intro c k g hc
    cases hc
    have h : ∀ k ∈ Slot.all, ∀ g ∈ itemsStored.green.get k, g + 100 ≤ 800 := by decide
    exact h k (Slot.mem_all k) g
  · intro c o hc ho
    cases hc; cases ho; decide
  · refine ⟨?_, fun _ _ => rfl, ?_, fun _ _ => rfl, ?_, fun _ _ => rfl⟩ <;> intro k v h <;> nomatch h
  · rintro (h | ⟨i, h, -⟩) <;> nomatch h

/-- Each clause: an erase in use and pending; values beside each range; the reference slot of a plan in use undefined;
a green of 49 and of C - 99; a C one below a green plus 100, and equal to O_ref; and the pair [G, C] under a stored
green. -/
theorem witness_WriteChecksItsValues :
    let s : State := { idle with plans := idle.plans.set .p1 { plan with oRef := some 400, green := PerSlot.fill none } }
    (1 : Byte).toNat = PlanNo.p1.num ∧
      ((asked running 0x08 [1, 1]).AtHead 0x08 [1, 1] (req 0x08 [1, 1]) ∧ InUse running .p1) ∧
      ((asked starting 0x08 [1, 1]).AtHead 0x08 [1, 1] (req 0x08 [1, 1]) ∧ ¬ InUse starting .p1 ∧
        starting.directory.pending = some .p1) ∧
      ((asked idle 0x08 [1, 0, 1, 1, 143]).AtHead 0x08 [1, 0, 1, 1, 143] (req 0x08 [1, 0, 1, 1, 143]) ∧
        Writable idle .p1 ∧ ValueOut plan 1 (readU16 1 143)) ∧
      (ValueOut plan 4 29 ∧ ValueOut plan 5 251 ∧ ValueOut plan 6 13 ∧ ValueOut plan 7 800 ∧ ValueOut plan 8 51 ∧
        ValueOut plan 9 41 ∧ ValueOut plan 10 17 ∧ ValueOut plan 11 8) ∧
      ((asked running 0x08 [1, 0, 6, 0, 12]).AtHead 0x08 [1, 0, 6, 0, 12] (req 0x08 [1, 0, 6, 0, 12]) ∧
        readU16 0 12 = Slot.k12.num ∧ running.corridor.table.get .k12 = none) ∧
      ((asked idle 0x08 [1, 0, 2, 1, 0, 49]).AtHead 0x08 [1, 0, 2, 1, 0, 49] (req 0x08 [1, 0, 2, 1, 0, 49]) ∧
        IsSlot 1 .k1 ∧ readU16 0 49 < 50 ∧ plan.cycle.getD 2400 < readU16 2 189 + 100) ∧
      ((asked idle 0x08 [1, 0, 1, 2, 47]).AtHead 0x08 [1, 0, 1, 2, 47] (req 0x08 [1, 0, 1, 2, 47]) ∧
        400 ≤ readU16 2 47 ∧ readU16 2 47 ≤ 2400 ∧
        ∃ k g, (idle.plans.get .p1).green.get k = some g ∧ readU16 2 47 < g + 100) ∧
      (400 ≤ readU16 1 144 ∧ ∃ o, (s.plans.get .p1).oRef = some o ∧ readU16 1 144 ≤ o) ∧
      (asked idle 0x08 [1, 0, 2, 1, 1, 44, 1, 1, 244]).AtHead 0x08 [1, 0, 2, 1, 1, 44, 1, 1, 244]
          (req 0x08 [1, 0, 2, 1, 1, 44, 1, 1, 244]) ∧
        400 ≤ readU16 1 244 ∧ 50 ≤ readU16 1 44 ∧ readU16 1 44 + 100 ≤ readU16 1 244 ∧
        ∃ i g, i ≠ Slot.k1 ∧ (idle.plans.get .p1).green.get i = some g ∧ readU16 1 244 < g + 100 := by
  unfold Writable InUse ValueOut IsSlot
  exact ⟨by decide, ⟨asked_atHead _ (by decide) _, by decide⟩, ⟨asked_atHead _ (by decide) _, by decide, by decide⟩,
    ⟨asked_atHead _ (by decide) _, by decide, by decide⟩,
    ⟨by decide, by decide, by decide, by decide, by decide, by decide, by decide, by decide⟩,
    ⟨asked_atHead _ (by decide) _, by decide, by decide⟩,
    ⟨asked_atHead _ (by decide) _, by decide, by decide, by decide⟩,
    ⟨asked_atHead _ (by decide) _, by decide, by decide, .k4, _, rfl, by decide⟩, ⟨by decide, _, rfl, by decide⟩,
    asked_atHead _ (by decide) _, by decide, by decide, by decide, .k4, _, by decide, rfl, by decide⟩

/-- Items of a write: a value in its range and one out of it, and a C of 500 under the stored greens. -/
def outOfRange : List PlanItem := [.value .loss 50] ++ .value .headway 41 :: []
@[inherit_doc outOfRange] def tooShort : List PlanItem := [.value .loss 50] ++ .value .cycle 500 :: []

/-- The record that `tooShort` would leave. -/
def shortPlan : PlanRecord := { plan with loss := some 50, cycle := some 500 }

/-- The six checks on a list of items: plan numbers 0 and 17, erase flag 2, a field named before, slots 0 and 13, a green
of a plan in use and C of the pending plan without the erase flag, a value beside its range, and a C beneath the stored
greens. -/
theorem witness_WriteChecksItsValues_lists :
    let named : List PlanItem := [.green 1 300, .image 12 []]
    let body : Byte → Byte → List PlanItem → List Byte := fun pb eb items => pb :: eb :: items.flatMap itemBytes
    ((∀ i ∈ named, Carried i) ∧
        (asked idle 0x08 (body 0 2 named)).AtHead 0x08 (body 0 2 named) (req 0x08 (body 0 2 named)) ∧
        (0 : Byte).toNat = 0 ∧ 16 < (17 : Byte).toNat ∧ 1 < (2 : Byte).toNat) ∧
      (NamesFields named ∧ (PlanItem.green 1 300).sameField (.green 1 301) = true ∧ ¬ NamesSlot (.green 13 300) ∧
        ¬ NamesSlot (.image 0 [])) ∧
      ((asked running 0x08 (body 1 0 named)).AtHead 0x08 (body 1 0 named) (req 0x08 (body 1 0 named)) ∧
        (0 : Byte) = boolByte false ∧ Structural false named ∧ InUse running .p1) ∧
      ((asked starting 0x08 (body 1 0 tooShort)).AtHead 0x08 (body 1 0 tooShort) (req 0x08 (body 1 0 tooShort)) ∧
        Structural false tooShort ∧ ¬ InUse starting .p1 ∧ starting.directory.pending = some .p1) ∧
      ((asked idle 0x08 (body 1 0 outOfRange)).AtHead 0x08 (body 1 0 outOfRange) (req 0x08 (body 1 0 outOfRange)) ∧
        NamesFields outOfRange ∧ ¬ Structural false outOfRange ∧ StoresCycle plan outOfRange plan ∧
        ItemFits idle .p1 plan (.value .loss 50) ∧ ¬ ItemFits idle .p1 plan (.value .headway 41)) ∧
      ((asked idle 0x08 (body 1 0 tooShort)).AtHead 0x08 (body 1 0 tooShort) (req 0x08 (body 1 0 tooShort)) ∧
        NamesFields tooShort ∧ Writable idle .p1 ∧ Stores plan tooShort shortPlan ∧
        (∀ i ∈ tooShort, ItemFits idle .p1 shortPlan i) ∧ ¬ TakesPart shortPlan (.value .loss 50) ∧
        TakesPart shortPlan (.value .cycle 500)) := by
  have names : ∀ f g v w, (PlanField.cycle = f → v < 65536) → f ≠ g →
      NamesFields ([.value f v] ++ .value g w :: []) := by
    intro f g v w _ h
    refine ⟨by simp [PlanItem.sameField, h], fun i hi => ?_⟩
    simp only [List.singleton_append, List.mem_cons, List.not_mem_nil, or_false] at hi
    rcases hi with rfl | rfl <;> trivial
  have low : ¬ RecordFits shortPlan := fun h => absurd (h.1 500 .k1 440 rfl rfl) (by decide)
  refine ⟨⟨by simp [Carried], asked_atHead _ (by decide) _, by decide, by decide, by decide⟩,
    ⟨⟨by decide, by simp [NamesSlot]⟩, by decide, by simp [NamesSlot], by simp [NamesSlot]⟩,
    ⟨asked_atHead _ (by decide) _, rfl, .inr ⟨_, List.mem_cons_self, .inr (.inl ⟨_, _, rfl⟩)⟩, .inl rfl⟩,
    ⟨asked_atHead _ (by decide) _, .inr ⟨_, List.mem_cons_of_mem _ List.mem_cons_self, .inl ⟨_, rfl⟩⟩,
      by unfold InUse; decide, rfl⟩,
    ⟨asked_atHead _ (by decide) _, names _ _ _ _ (fun h => nomatch h) (by decide),
      by simp [Structural, outOfRange], ⟨by simp [outOfRange], fun _ => rfl⟩, by simp [ItemFits, ValueOut, fieldCode],
      by simp [ItemFits, ValueOut, fieldCode]⟩,
    asked_atHead _ (by decide) _, names _ _ _ _ (fun h => nomatch h) (by decide),
    by unfold Writable InUse; decide, ⟨?_, ?_, ?_, fun _ _ => rfl, ?_, fun _ _ => rfl⟩, ?_, by simp [TakesPart],
    .inl ⟨rfl, low⟩⟩
  · intro f v h
    cases f <;> simp [tooShort] at h <;> simp [h, shortPlan, fieldOf]
  · intro f h
    cases f
    case loss => exact absurd (by simp [tooShort]) (h 50)
    case cycle => exact absurd (by simp [tooShort]) (h 500)
    all_goals rfl
  · intro k v h; simp [tooShort] at h
  · intro k v h; simp [tooShort] at h
  · intro i h
    simp only [tooShort, List.singleton_append, List.mem_cons, List.not_mem_nil, or_false] at h
    rcases h with rfl | rfl <;> simp [ItemFits, ValueOut, fieldCode]

/-- Lists of several settings: codes on both sides of the table and one named twice after good items; the fallback plan
among others outside Idle; a later value out of range; and three settings stored at once, the fallback plan among
them. -/
theorem witness_SettingIsStored_lists :
    let body : List (Byte × Nat) → List Byte := fun items => items.flatMap fun x => x.1 :: u16 x.2
    let many : List (Byte × Nat) := [(1, 5), (11, 16), (18, 255)]
    let late : List (Byte × Nat) := [(1, 5)] ++ (2, 3) :: []
    ((∀ x ∈ many, x.2 < 65536) ∧
        (asked idle 0x0A (body many)).AtHead 0x0A (body many) (req 0x0A (body many)) ∧
        (∀ x ∈ many, KnownSetting x.1) ∧ (many.map Prod.fst).Nodup ∧ (∀ x ∈ many, SettingFits x) ∧
        11 ∈ many.map Prod.fst ∧ idle.corridor.state = .idle ∧ (11, PlanNo.p16.num) ∈ many) ∧
      ((asked running 0x0A (body many)).AtHead 0x0A (body many) (req 0x0A (body many)) ∧
        running.corridor.state ≠ .idle) ∧
      ((asked running 0x0A (body late)).AtHead 0x0A (body late) (req 0x0A (body late)) ∧
        11 ∉ late.map Prod.fst ∧ (∀ x ∈ [((1 : Byte), 5)], SettingFits x) ∧ ¬ SettingFits (2, 3)) ∧
      (¬ KnownSetting 0 ∧ ¬ KnownSetting 19 ∧ (1 : Byte) ∈ [((1 : Byte), 5)].map Prod.fst) := by
  have fits : ∀ c v, SettingFits (c, v) ↔ ∀ i ∈ SettingId.all, c.toNat = i.code → i.inRange v = true := fun c v =>
    ⟨fun h i _ => h i, fun h i => h i (by cases i <;> decide)⟩
  unfold KnownSetting
  refine ⟨⟨by decide, asked_atHead _ (by decide) _, by decide, by decide, ?_, by decide, by decide, by decide⟩,
    ⟨asked_atHead _ (by decide) _, by decide⟩, ⟨asked_atHead _ (by decide) _, by decide, ?_, ?_⟩, by decide⟩
  · intro x h
    simp only [List.mem_cons, List.not_mem_nil, or_false] at h
    rcases h with rfl | rfl | rfl <;> exact (fits _ _).2 (by decide)
  · intro x h
    cases List.mem_singleton.1 h
    exact (fits _ _).2 (by decide)
  · exact fun h => absurd ((fits _ _).1 h) (by decide)

/-- Codes on both sides of the table, the fallback plan outside Idle, values on both sides of their ranges, and a
setting named twice. -/
theorem witness_SettingIsStored :
    ((asked idle 0x0A [0, 0, 5]).AtHead 0x0A [0, 0, 5] (req 0x0A [0, 0, 5]) ∧ (0 : Byte).toNat = 0 ∧
        18 < (19 : Byte).toNat) ∧
      ((asked running 0x0A [11, 0, 1]).AtHead 0x0A [11, 0, 1] (req 0x0A [11, 0, 1]) ∧
        (11 : Byte).toNat = SettingId.fallback.code ∧ running.corridor.state ≠ .idle) ∧
      (idle.corridor.state = .idle ∧ SettingId.fallback.inRange (readU16 0 17) = false) ∧
      ((asked running 0x0A [1, 0, 4]).AtHead 0x0A [1, 0, 4] (req 0x0A [1, 0, 4]) ∧
        SettingId.tolerance.inRange (readU16 0 4) = false) ∧
      ((asked running 0x0A [1, 0, 5]).AtHead 0x0A [1, 0, 5] (req 0x0A [1, 0, 5]) ∧
        (1 : Byte).toNat = SettingId.tolerance.code ∧ SettingId.tolerance ≠ .fallback ∧
        SettingId.tolerance.inRange (readU16 0 5) = true) ∧
      ((asked running 0x0A [18, 0, 255]).AtHead 0x0A [18, 0, 255] (req 0x0A [18, 0, 255]) ∧
        (18 : Byte).toNat = SettingId.qualityThreshold.code ∧
        SettingId.qualityThreshold.inRange (readU16 0 255) = true) ∧
      (asked running 0x0A [1, 0, 5, 1, 0, 6]).AtHead 0x0A [1, 0, 5, 1, 0, 6] (req 0x0A [1, 0, 5, 1, 0, 6]) :=
  ⟨⟨asked_atHead _ (by decide) _, by decide, by decide⟩, ⟨asked_atHead _ (by decide) _, by decide, by decide⟩,
    ⟨by decide, by decide⟩, ⟨asked_atHead _ (by decide) _, by decide⟩,
    ⟨asked_atHead _ (by decide) _, by decide, by decide, by decide⟩, ⟨asked_atHead _ (by decide) _, by decide, by decide⟩,
    asked_atHead _ (by decide) _⟩

theorem witness_FallbackSettingAlignsEveryDirectory :
    ((asked idle 0x0A [11, 0, 0]).AtHead 0x0A [11, 0, 0] (req 0x0A [11, 0, 0]) ∧ idle.corridor.state = .idle ∧
        (0 : Byte).toNat ≤ 16) ∧
      (asked idle 0x0A [11, 0, 16]).AtHead 0x0A [11, 0, 16] (req 0x0A [11, 0, 16]) ∧
        (16 : Byte).toNat = PlanNo.p16.num :=
  ⟨⟨asked_atHead _ (by decide) _, by decide, by decide⟩, asked_atHead _ (by decide) _, by decide⟩

/-! #### The run of the corridor -/

/-- Plan 1 of the model corridor is complete for its layout. -/
theorem plan_complete : Complete idle .p1 := by
  refine ⟨by decide, every ?_, by decide, by decide, ⟨.k4, by decide, by decide⟩, by decide⟩
  show ∀ k ∈ Slot.all, layout.get k ≠ none → plan.green.get k ≠ none
  decide

/-- Each check of R7 in turn, plan numbers on both sides of their range, and an accepted START. -/
theorem witness_StartEntersStarting :
    let blank : State := { idle with corridor := { idle.corridor with table := PerSlot.fill none } }
    let fallen : State :=
      { idle with corridor := { idle.corridor with settings := { Settings.default with fallback := some .p2 } } }
    ((asked running 0x0C [1]).AtHead 0x0C [1] (req 0x0C [1]) ∧ running.corridor.state ≠ .idle) ∧
      ((asked idle 0x0C [17]).AtHead 0x0C [17] (req 0x0C [17]) ∧ (0 : Byte).toNat = 0 ∧ 16 < (17 : Byte).toNat) ∧
      ((asked blank 0x0C [1]).AtHead 0x0C [1] (req 0x0C [1]) ∧ ∀ k, blank.corridor.table.get k = none) ∧
      ((asked idle 0x0C [16]).AtHead 0x0C [16] (req 0x0C [16]) ∧ (16 : Byte).toNat = PlanNo.p16.num ∧
        ¬ Complete idle .p16) ∧
      ((asked fallen 0x0C [1]).AtHead 0x0C [1] (req 0x0C [1]) ∧ fallen.corridor.settings.fallback = some .p2 ∧
        Complete fallen .p1 ∧ ¬ Complete fallen .p2) ∧
      (asked idle 0x0C [1]).AtHead 0x0C [1] (req 0x0C [1]) ∧ (1 : Byte).toNat = PlanNo.p1.num ∧
        idle.corridor.state = .idle ∧ (∃ k, idle.corridor.table.get k ≠ none) ∧ Complete idle .p1 ∧
        (∀ f, idle.corridor.settings.fallback = some f → Complete idle f) ∧
        2 ≤ idle.corridor.settings.switchDeadline ∧ (idle.plans.get .p1).cycle = some 800 :=
  ⟨⟨asked_atHead _ (by decide) _, by decide⟩, ⟨asked_atHead _ (by decide) _, by decide, by decide⟩,
    ⟨asked_atHead _ (by decide) _, every (by decide)⟩,
    ⟨asked_atHead _ (by decide) _, by decide, fun h => h.1 (by decide)⟩,
    ⟨asked_atHead _ (by decide) _, by decide, plan_complete, fun h => h.1 (by decide)⟩,
    asked_atHead _ (by decide) _, by decide, by decide, ⟨.k1, by decide⟩, plan_complete, (fun f h => by cases h),
    by decide, by decide⟩

theorem records_starting : RecordsLegal starting := by
  refine ⟨every ?_, every ?_, every ?_, .nil⟩ <;> decide +kernel

/-- Refused in Idle and in Stopping; from Starting and from Running, with an order queued whose slot is Loading over a
prior content. -/
theorem witness_StopEntersStopping :
    let o : Order := ⟨.k2, .p2, .queued, 1, some .d3, none, false⟩
    let d : Directory := { Directory.initial with d3 := .loading .p2 false (.valid .p3) }
    ((asked idle 0x0D []).AtHead 0x0D [] (req 0x0D []) ∧ idle.corridor.state = .idle) ∧
      ((asked stopping 0x0D []).AtHead 0x0D [] (req 0x0D []) ∧ stopping.corridor.state = .stopping) ∧
      ((asked starting 0x0D []).AtHead 0x0D [] (req 0x0D []) ∧ starting.corridor.state = .starting ∧
        RecordsLegal starting) ∧
      ((asked running 0x0D []).AtHead 0x0D [] (req 0x0D []) ∧ running.corridor.state = .running ∧
        RecordsLegal running) ∧
      o.stage ≠ .onLine ∧ o.target = some .d3 ∧ d.get .d3 = .loading o.plan false (.valid .p3) ∧
      ∀ o' ∈ [o], o'.slot = o.slot → o' = o :=
  ⟨⟨asked_atHead _ (by decide) _, by decide⟩, ⟨asked_atHead _ (by decide) _, by decide⟩,
    ⟨asked_atHead _ (by decide) _, by decide, records_starting⟩,
    ⟨asked_atHead _ (by decide) _, by decide, records_running⟩, by decide, by decide, by decide, by decide⟩

/-- The corridor Running plan 1, with plan 2 a copy of it that no junction holds. -/
def running2 : State := { running with plans := running.plans.set .p2 plan }

/-- Plan 2 is pending. -/
def switching : State := { running2 with directory := { running2.directory with pending := some .p2, deadline := 3 } }

theorem plan2_complete : Complete running2 .p2 := plan_complete

theorem holdsNone_p2 : ∀ k, ¬ HoldsValid running2 k .p2 := by
  have h : ∀ k ∈ Slot.all, ∀ x ∈ DirSlot.all, (running2.directory.dirs.get k).get x ≠ .valid .p2 := by decide +kernel
  exact fun k ⟨x, hx⟩ => h k (Slot.mem_all k) x (DirSlot.mem_all x) hx

theorem holds_p1 : ∀ k, running.corridor.table.get k ≠ none → HoldsValid running k .p1 := by
  have h : ∀ k ∈ Slot.all, layout.get k ≠ none → (running.directory.dirs.get k).get .d1 = .valid .p1 := by
    decide +kernel
  exact fun k hk => ⟨.d1, h k (Slot.mem_all k) hk⟩

/-- With the directories of `running`, no slot is Loading. -/
theorem no_download {s : State} (h : s.directory.dirs = running.directory.dirs) (k : Slot) (x : DirSlot) (p : PlanNo)
    (mark : Bool) (prior : Content) : (s.directory.dirs.get k).get x ≠ .loading p mark prior := by
  have none : ∀ k ∈ Slot.all, ∀ x ∈ DirSlot.all,
      (match (running.directory.dirs.get k).get x with | .loading _ _ _ => true | _ => false) = false := by
    decide +kernel
  intro e
  have := none k (Slot.mem_all k) x (DirSlot.mem_all x)
  rw [← h, e] at this
  cases this

/-- Each check of R135 in turn, and an accepted SWITCH PLAN with a junction that lacks the plan. -/
theorem witness_SwitchMakesThePlanPending :
    ((asked idle 0x0E [2]).AtHead 0x0E [2] (req 0x0E [2]) ∧ idle.corridor.state ≠ .running) ∧
      ((asked running2 0x0E [17]).AtHead 0x0E [17] (req 0x0E [17]) ∧ 16 < (17 : Byte).toNat) ∧
      ((asked running2 0x0E [16]).AtHead 0x0E [16] (req 0x0E [16]) ∧ (16 : Byte).toNat = PlanNo.p16.num ∧
        ¬ Complete running2 .p16) ∧
      ((asked running2 0x0E [1]).AtHead 0x0E [1] (req 0x0E [1]) ∧ Complete running2 .p1 ∧
        running2.directory.active = some .p1) ∧
      ((asked switching 0x0E [2]).AtHead 0x0E [2] (req 0x0E [2]) ∧ switching.directory.active ≠ some .p2 ∧
        switching.directory.pending ≠ none) ∧
      (asked running2 0x0E [2]).AtHead 0x0E [2] (req 0x0E [2]) ∧ (2 : Byte).toNat = PlanNo.p2.num ∧
        running2.corridor.state = .running ∧ Complete running2 .p2 ∧ running2.directory.active ≠ some .p2 ∧
        running2.directory.pending = none ∧ running2.line.period = false ∧ running2.corridor.table.get .k1 ≠ none ∧
        ¬ HoldsValid running2 .k1 .p2 ∧ RecordsLegal running2 ∧ DirectoryLegal running2 :=
  ⟨⟨asked_atHead _ (by decide) _, by decide⟩, ⟨asked_atHead _ (by decide) _, by decide⟩,
    ⟨asked_atHead _ (by decide) _, by decide, fun h => h.1 (by decide)⟩,
    ⟨asked_atHead _ (by decide) _, plan_complete, by decide⟩, ⟨asked_atHead _ (by decide) _, by decide, by decide⟩,
    asked_atHead _ (by decide) _, by decide, by decide, plan2_complete, by decide, by decide, by decide, by decide,
    holdsNone_p2 _, records_running, plain_directories rfl rfl (no_download rfl)⟩

/-- `switching` with plan 2 Loading over the only copy of the active plan at slot 2, which is Excluded for want of it. -/
def overActive : State :=
  { switching with
    monitor := switching.monitor.set .k2 { StepRecord.initial with state := .excluded, cause := .plan }
    directory :=
      { switching.directory with
        dirs := switching.directory.dirs.set .k2 { Directory.initial with d3 := .loading .p2 false (.valid .p1) }
        orders := [⟨.k2, .p2, .queued, 1, some .d3, none, false⟩] } }

/-- With nothing pending, with the fallback plan pending, and with another, its order queued; the last over the active
plan, which comes back. -/
theorem witness_CancelWithdrawsTheSwitch :
    let o : Order := ⟨.k2, .p2, .queued, 1, some .d3, none, false⟩
    ((asked running 0x0E [0]).AtHead 0x0E [0] (req 0x0E [0]) ∧ running.corridor.state = .running ∧
        RecordsLegal running ∧ running.directory.pending = none) ∧
      ((asked switching 0x0E [0]).AtHead 0x0E [0] (req 0x0E [0]) ∧ RecordsLegal switching ∧
        switching.directory.pending = some .p2 ∧ switching.corridor.settings.fallback ≠ some .p2 ∧
        switching.line.period = false) ∧
      (o.plan = .p2 ∧ o.stage ≠ .onLine ∧ o.target = some .d3) ∧
      ({ switching.corridor.settings with fallback := some .p2 } : Settings).fallback = some .p2 ∧
      ((overActive.monitor.get .k2).state = .excluded ∧ (overActive.monitor.get .k2).cause = .plan ∧
        overActive.directory.active = some .p1 ∧ overActive.line.period = false ∧ ¬ HoldsValid overActive .k2 .p1 ∧
        ∃ t, exec .switchPlan (asked overActive 0x0E [0]) = .next t ∧ HoldsValid t .k2 .p1) := by
  refine ⟨⟨asked_atHead _ (by decide) _, by decide, records_running, by decide⟩,
    ⟨asked_atHead _ (by decide) _, records_running, by decide, by decide, by decide⟩, by decide, by decide,
    by decide +kernel, by decide +kernel, by decide, by decide, ?_, _, rfl, .d3, by decide +kernel⟩
  rintro ⟨x, hx⟩
  cases x <;> exact absurd hx (by decide +kernel)

/-- The plan numbers on both sides of 1..16, Idle, an incomplete plan while Running, and a complete one. -/
theorem witness_PreloadCreatesOrders :
    ((asked idle 0x0F [0]).AtHead 0x0F [0] (req 0x0F [0]) ∧ (0 : Byte).toNat = 0) ∧
      ((asked idle 0x0F [17]).AtHead 0x0F [17] (req 0x0F [17]) ∧ 16 < (17 : Byte).toNat) ∧
      ((asked idle 0x0F [1]).AtHead 0x0F [1] (req 0x0F [1]) ∧ (1 : Byte).toNat = PlanNo.p1.num ∧
        idle.corridor.state = .idle) ∧
      ((asked running2 0x0F [16]).AtHead 0x0F [16] (req 0x0F [16]) ∧ (16 : Byte).toNat = PlanNo.p16.num ∧
        ¬ Complete running2 .p16) ∧
      (asked running2 0x0F [2]).AtHead 0x0F [2] (req 0x0F [2]) ∧ (2 : Byte).toNat = PlanNo.p2.num ∧
        running2.corridor.state = .running ∧ Complete running2 .p2 ∧ running2.line.period = false :=
  ⟨⟨asked_atHead _ (by decide) _, rfl⟩, ⟨asked_atHead _ (by decide) _, by decide⟩,
    ⟨asked_atHead _ (by decide) _, by decide, by decide⟩,
    ⟨asked_atHead _ (by decide) _, by decide, fun h => h.1 rfl⟩, asked_atHead _ (by decide) _, by decide, by decide,
    plan2_complete, by decide⟩

/-- The corridor Running with plan 2 in slot 3 of every directory but that of slot 4, the download period open. -/
def feeding (d4 : Directory) (queue : List TxFrame) : State :=
  { running2 with
    directory :=
      { running2.directory with
        dirs := (PerSlot.of fun k =>
          if laid k then { Directory.initial with d1 := .valid .p1, d3 := .valid .p2 } else .initial).set .k4 d4 }
    line := { running2.line with period := true, queue := queue } }

/-- In `feeding` plan 2 is wanted at slot 4 alone, where no slot there is Loading. -/
theorem feeding_wanted (d4 : Directory) (queue : List TxFrame) (h : ∀ x, (d4.get x).plan ≠ some .p2)
    (h' : ∀ x q mark prior, d4.get x ≠ .loading q mark prior) (k : Slot) :
    PreloadWanted (feeding d4 queue) .p2 k ↔ k = .k4 := by
  refine ⟨fun ⟨hd, hv, _⟩ => Decidable.byContradiction fun hk => ?_, fun e => ?_⟩
  · have hl : ∀ j ∈ Slot.all, j ≠ .k4 → layout.get j ≠ none →
        (((PerSlot.of fun k =>
          if laid k then { Directory.initial with d1 := .valid .p1, d3 := .valid .p2 } else .initial).set .k4
            Directory.initial).get j).get .d3 = .valid .p2 := by decide +kernel
    refine hv ⟨.d3, ?_⟩
    have e := hl k (Slot.mem_all k) hk hd
    rw [PerSlot.get_set_ne _ hk] at e
    show (((PerSlot.of _).set .k4 d4).get k).get .d3 = _
    rw [PerSlot.get_set_ne _ hk]
    exact e
  · cases e
    refine ⟨show layout.get .k4 ≠ none by decide, ?_, ?_, ?_⟩
    · exact fun ⟨x, hx⟩ => h x (by rw [show d4.get x = .valid .p2 from hx]; rfl)
    · exact fun ⟨o, ho, _⟩ => nomatch ho
    · exact fun q ⟨x, mark, prior, hx⟩ => absurd hx (h' x q mark prior)

/-- `feeding` with plan 2 held everywhere and an order Waiting for the active plan at slot 4, which holds it. -/
def restored : State :=
  let s := feeding { Directory.initial with d1 := .valid .p1, d3 := .valid .p2 } []
  { s with directory := { s.directory with orders := [newOrder .p1 .k4] } }

theorem restored_wants_nothing (k : Slot) : ¬ PreloadWanted restored .p2 k := by
  have h : ∀ j ∈ Slot.all, layout.get j ≠ none → (restored.directory.dirs.get j).get .d3 = .valid .p2 := by
    decide +kernel
  exact fun ⟨hd, hv, _⟩ => hv ⟨.d3, h k (Slot.mem_all k) hd⟩

/-- A slot to place plan 2 in, every slot barred (each holds the active plan), a queue of 4 frames, and an order whose
place is the running slot. -/
theorem witness_DownloadIsPlacedAndQueued :
    let d : Directory := { Directory.initial with d1 := .valid .p1 }
    let b : Directory :=
      { Directory.initial with d0 := .valid .p1, d1 := .valid .p1, d2 := .valid .p1, d3 := .valid .p1 }
    let q : List TxFrame := List.replicate 4 (.load ⟨.k2, .p1, .d0, ⟨800, 400, []⟩⟩)
    ((asked (feeding d []) 0x0F [2]).AtHead 0x0F [2] (req 0x0F [2]) ∧ (2 : Byte).toNat = PlanNo.p2.num ∧
        (feeding d []).corridor.state = .running ∧ Complete (feeding d []) .p2 ∧ (feeding d []).line.period = true ∧
        (∀ o ∈ (feeding d []).directory.orders, o.stage ≠ .waiting) ∧
        (∀ j, PreloadWanted (feeding d []) .p2 j ↔ j = .k4) ∧ ((feeding d []).plans.get .p2).cycle = some 800 ∧
        ((feeding d []).plans.get .p2).green.get .k4 = some 460 ∧ PlacedAt (feeding d []) .k4 .p2 .d0 ∧
        (feeding d []).line.queue.length < 4) ∧
      ((∀ j, PreloadWanted (feeding b []) .p2 j ↔ j = .k4) ∧ (∀ x, Barred (feeding b []) .k4 .p2 x) ∧
        (∀ x, (((feeding b []).directory.dirs.get .k4).get x).plan ≠ some .p2) ∧
        (feeding b []).directory.active ≠ some .p2 ∧ (feeding b []).directory.pending ≠ some .p2 ∧
        (feeding b []).corridor.settings.fallback ≠ some .p2) ∧
      ((∀ j, PreloadWanted (feeding d q) .p2 j ↔ j = .k4) ∧ 4 ≤ (feeding d q).line.queue.length) ∧
      (∀ p, (feeding d []).directory.active = some p → ((feeding d []).directory.dirs.get .k4).get .d0 ≠ .valid p) ∧
      ((asked restored 0x0F [2]).AtHead 0x0F [2] (req 0x0F [2]) ∧ restored.corridor.state = .running ∧
        Complete restored .p2 ∧ restored.line.period = true ∧ restored.line.queue.length < 4 ∧
        (∀ j, ¬ PreloadWanted restored .p2 j) ∧
        (restored.directory.orders.filter fun y => y.stage == .waiting) = [newOrder .p1 .k4] ∧
        restored.directory.active = some .p1 ∧ (restored.directory.dirs.get .k4).get .d1 = .valid .p1 ∧
        (∀ y, y ≠ .d1 → ((restored.directory.dirs.get .k4).get y).plan ≠ some .p1) ∧
        restored.corridor.settings.fallback ≠ some .p1) := by
  intro d b q
  have hd : ∀ x, (d.get x).plan ≠ some .p2 := fun x => by cases x <;> decide
  have hd' : ∀ x p mark prior, d.get x ≠ .loading p mark prior := fun x p m c => by cases x <;> simp [d, Directory.get, Directory.initial]
  have hb : ∀ x, (b.get x).plan ≠ some .p2 := fun x => by cases x <;> decide
  have hb' : ∀ x p mark prior, b.get x ≠ .loading p mark prior := fun x p m c => by cases x <;> simp [b, Directory.get]
  have free : ¬ Barred (feeding d []) .k4 .p2 .d0 := fun h =>
    h.elim (fun ⟨_, f, hf, _⟩ => nomatch hf) fun h => h.elim (fun ⟨p, hp, _⟩ => nomatch hp) fun ⟨o, ho, _⟩ => nomatch ho
  have low : ∀ y : DirSlot, ¬ y.num < DirSlot.d0.num := fun y => by cases y <;> decide
  have barred : ∀ x, Barred (feeding b []) .k4 .p2 x := fun x => .inr (.inl ⟨.p1, by cases x <;> rfl, .inl rfl⟩)
  exact ⟨⟨asked_atHead _ (by decide) _, by decide, by decide, plan_complete, by decide, (fun o h => nomatch h),
      feeding_wanted _ _ hd hd', by decide, by decide,
      .inr ⟨by decide, .inr ⟨hd, .inl ⟨⟨rfl, free⟩, fun y h => absurd h (low y)⟩⟩⟩, by decide⟩,
    ⟨feeding_wanted _ _ hb hb', barred, hb, by decide, by decide, by decide⟩, ⟨feeding_wanted _ _ hd hd', by decide⟩,
    fun p _ => by cases p <;> decide, asked_atHead _ (by decide) _, by decide, plan_complete, by decide, by decide,
    restored_wants_nothing, by decide, by decide, by decide +kernel,
    fun y => by cases y <;> decide +kernel, by decide⟩

/-- The exchange of a kind with slot 2, its window open. -/
def exchange (kind : ExchangeKind) (attempt : Nat) : Exchange :=
  { kind := kind, slot := .k2, address := 12, attempt := attempt, window := some 250 }

/-- The part listening in the window of an exchange, slot 3 still to be polled. -/
def listening (s : State) (kind : ExchangeKind) (attempt : Nat) : State :=
  { s with
    line := { s.line with
      transmitter := .awaiting, exchange := some (exchange kind attempt), beacon := .sent
      sweep := some { sequence := 5, current := some (.k2, attempt), waiting := [.k3] } } }

theorem listening_hears (kind : ExchangeKind) (n : Nat) : Listening (listening running kind n) (exchange kind n) :=
  ⟨rfl, rfl, by simp [exchange], by simp [exchange], rfl, rfl⟩

/-- A download of plan 2 to slot 2, its frame sent. -/
def loading : State :=
  { listening running2 .download 1 with
    directory := { running2.directory with
      dirs := running2.directory.dirs.set .k2 { Directory.initial with d1 := .valid .p1, d3 := .loading .p2 true .empty }
      orders := [⟨.k2, .p2, .onLine, 1, some .d3, none, false⟩] } }

/-- A marked download of plan 2, and one of the active plan to a junction Excluded for want of it. -/
theorem witness_ImageAckCompletesTheDownload :
    let o : Order := ⟨.k2, .p2, .onLine, 1, some .d3, none, false⟩
    let r : StepRecord := { StepRecord.initial with state := .excluded, cause := .plan }
    let u : DirectoryUnit := { loading.directory with active := some .p2 }
    Listening loading (exchange .download 1) ∧ (exchange .download 1).kind = .download ∧ QueuesNoFrame loading ∧
      QueuesNoFrame { loading with line := { loading.line with period := true } } ∧
      (loading.directory.orders.find? fun y => y.slot == (exchange .download 1).slot && y.stage == .onLine) = some o ∧
      o.target = some .d3 ∧ (loading.directory.dirs.get .k2).get .d3 = .loading .p2 true .empty ∧
      loading.corridor.state = .running ∧ u.active = some o.plan ∧
      ((loading.monitor.set .k2 r).get .k2).state = .excluded ∧ ((loading.monitor.set .k2 r).get .k2).cause = .plan :=
  ⟨listening_hears .download 1, by decide, .inl rfl, .inr (.inr (by decide)), by decide, rfl, by decide, by decide, rfl,
    rfl, rfl⟩

/-- Two attempts made and three, a retry forbidden, replies that do not accept the load, with the period closed and with
4 frames queued; and an end in an open period with room, by a timeout and by a refusal. -/
theorem witness_FailedDownloadIsRetried :
    let o : Order := ⟨.k2, .p2, .onLine, 1, some .d3, none, false⟩
    let held : Order := { o with content := some ⟨800, 300, []⟩ }
    let open' : State :=
      { loading with
        line := { loading.line with period := true }, directory := { loading.directory with orders := [held] } }
    (Listening loading (exchange .download 1) ∧ loading.line.period = false ∧
      (loading.directory.orders.find? fun y => y.slot == (exchange .download 1).slot && y.stage == .onLine) = some o ∧
      (loading.directory.dirs.get .k2).get .d3 = .loading o.plan true .empty ∧
      (({ o with attempts := 2 } : Order).attempts < 3 ∧ o.noRetry = false) ∧ 3 ≤ ({ o with attempts := 3 } : Order).attempts ∧
      ({ o with noRetry := true } : Order).noRetry = true ∧
      ((1 : Byte) ≠ 0 ∧ (2 : Byte).toNat ≠ DirSlot.d3.num ∧ (1 : Byte).toNat ≠ o.plan.num) ∧
      4 ≤ (List.replicate 4 (TxFrame.load ⟨.k2, .p1, .d0, ⟨800, 400, []⟩⟩)).length) ∧
    (∃ after, EndsUnaccepted open' (exchange .download 1) held .d3 .replyTimeout true after) ∧
    (∃ event after, EndsUnaccepted open' (exchange .download 1) held .d3 event false after) ∧
    Listening open' (exchange .download 1) ∧
      (open'.directory.orders.find? fun y => y.slot == (exchange .download 1).slot && y.stage == .onLine) = some held ∧
      (open'.directory.dirs.get .k2).get .d3 = .loading held.plan true .empty ∧ open'.line.period = true ∧
      open'.line.queue.length < 4 ∧ (∀ y ∈ open'.directory.orders, y.stage ≠ .waiting) ∧
      (open'.directory.orders.filter fun y => decide (y.slot = held.slot ∧ y.plan = held.plan)) = [held] ∧
      held.content = some ⟨800, 300, []⟩ ∧ held.attempts < 3 ∧ held.noRetry = false :=
  ⟨⟨listening_hears .download 1, by decide, by decide, by decide, by decide, by decide, by decide, by decide, by decide⟩,
    ⟨_, .inl ⟨rfl, rfl, rfl⟩⟩, ⟨_, _, .inr ⟨1, 3, 2, true, .inl (by decide), rfl, rfl, rfl⟩⟩, ⟨rfl, rfl, by simp [exchange], by simp [exchange], rfl, rfl⟩, by decide, by decide, rfl, by decide, by decide,
    by decide, rfl, by decide, rfl⟩

theorem finished (s : State) (hs : s.corridor.state ≠ .idle) (hl : s.line = State.reset.line)
    (he : s.engine = State.reset.engine) : CycleFinished s := by
  refine ⟨hs, ?_, ?_, ?_, ?_, ?_⟩ <;> simp [hl, he, State.reset]

/-- A Running corridor whose every junction holds the pending plan is ready; one that lacks it is not. -/
theorem witness_CycleZeroDecidesTheCommit :
    (CycleFinished switching ∧ switching.corridor.state = .running ∧ switching.directory.pending = some .p2 ∧
        (switching.plans.get .p2).cycle = some 800 ∧ ¬ CommitReady switching .p2 ∧ 1 < switching.directory.deadline) ∧
      CommitReady running .p1 ∧
      (CycleFinished starting ∧ starting.corridor.state = .starting ∧ starting.directory.pending = some .p1) ∧
      ({ switching.directory with deadline := 1 } : DirectoryUnit).deadline ≤ 1 := by
  refine ⟨⟨finished _ (by decide) rfl rfl, by decide, by decide, by decide, fun h => ?_, by decide⟩, ⟨?_, ?_⟩,
    ⟨finished _ (by decide) rfl rfl, by decide, by decide⟩, by decide⟩
  · exact holdsNone_p2 .k1 (h.1 .k1 ⟨by decide, .inl ⟨by decide, by decide⟩⟩)
  · exact fun k hk => holds_p1 k hk.1
  · exact fun h => absurd h (by decide)

/-- `switching` at its last cycle zero, slot 1 alone holding plan 2. -/
def lastZero : State :=
  { switching with
    directory := { switching.directory with
      deadline := 1
      dirs := switching.directory.dirs.modify .k1 fun d => { d with d2 := .valid .p2 } } }

/-- `starting` at its last cycle zero. -/
def firstCommit : State := { starting with directory := { starting.directory with deadline := 1 } }

/-- Plan 2 pending at its last cycle zero, held by slot 1 alone: that slot and slot 2 show both outcomes; the same at
a change of C; and a commit that ends Starting. -/
theorem witness_CommitMovesEveryJunction :
    let s := lastZero
    let first := firstCommit
    (CycleFinished s ∧ s.corridor.state = .running ∧ s.directory.pending = some .p2 ∧
      (s.plans.get .p2).cycle = some 800 ∧ 800 = s.clock.length ∧ s.directory.deadline ≤ 1 ∧
      s.corridor.table.get .k12 = none ∧
      (s.corridor.table.get .k1 ≠ none ∧ HoldsValid s .k1 .p2 ∧
        ∀ y, (s.directory.dirs.get .k1).get y = .valid .p2 ↔ y = .d2) ∧
      s.corridor.table.get .k2 ≠ none ∧ ¬ HoldsValid s .k2 .p2 ∧ InCommitSet s .k2) ∧
    (CycleFinished { s with clock := { s.clock with length := 700 } } ∧
      800 ≠ ({ s with clock := { s.clock with length := 700 } } : State).clock.length ∧ 0 < 800) ∧
    CycleFinished first ∧ first.corridor.state = .starting ∧ first.directory.pending = some .p1 ∧
      (first.plans.get .p1).cycle = some 800 ∧ first.directory.deadline ≤ 1 := by
  refine ⟨⟨finished _ (by decide) rfl rfl, by decide, by decide, by decide, rfl, by decide, by decide,
    ⟨by decide, ⟨.d2, by decide⟩, fun y => by cases y <;> decide⟩, by decide, ?_,
      by decide, .inl ⟨by decide, by decide⟩⟩,
    ⟨finished _ (by decide) rfl rfl, by decide, by decide⟩, finished _ (by decide) rfl rfl, rfl, rfl, by decide, by decide⟩
  rintro ⟨x, hx⟩
  cases x <;> exact absurd hx (by decide)

/-- No plan pending: Running, with every entry commanded RUN, and Stopping, with none. A plan that stays pending. A
commit in Running with C unchanged and with a change of C, and one that ends Starting, each with slot 1 commanded RUN
afterwards. -/
theorem witness_CycleZeroAssemblesTheBeacon :
    let shorter : State := { lastZero with clock := { lastZero.clock with length := 700 } }
    let runs : PlanNo → State → Bool := fun p t =>
      (t.monitor.get .k1).state.command == .run && t.corridor.state == .running && t.directory.active == some p &&
        DirSlot.all.any fun x => (t.directory.dirs.get .k1).get x == .valid p
    (CycleFinished running ∧ RecordsLegal running ∧ running.directory.pending = none ∧ ComesIntoForce running .p1 ∧
        (running.plans.get .p1).cycle = some 800 ∧ 160 = 800 * running.corridor.settings.lengthenLimit / 100 ∧
        80 = 800 * running.corridor.settings.shortenLimit / 100 ∧ running.corridor.settings.shortenLimit ≤ 100 ∧
        running.corridor.table.get .k1 ≠ none ∧ (∃ a, running.transition.records.get .k1 = some a) ∧
        RunCommanded running .k1 ∧ HoldsValid running .k1 .p1) ∧
      (CycleFinished stopping ∧ RecordsLegal stopping ∧ stopping.corridor.state = .stopping ∧
        stopping.directory.pending = none ∧ stopping.directory.active = some .p1 ∧ ¬ RunCommanded stopping .k1) ∧
      (CycleFinished switching ∧ RecordsLegal switching ∧ switching.corridor.state = .running ∧
        switching.directory.pending ≠ none ∧ ComesIntoForce switching .p1) ∧
      (CycleFinished lastZero ∧ RecordsLegal lastZero ∧ Commits lastZero .p2 ∧ 800 = lastZero.clock.length ∧
        after (exec .cycleZero lastZero) (runs .p2) = true) ∧
      (CycleFinished shorter ∧ Commits shorter .p2 ∧ 800 ≠ shorter.clock.length ∧
        after (exec .cycleZero shorter) (runs .p2) = true) ∧
      (CycleFinished firstCommit ∧ RecordsLegal firstCommit ∧ Commits firstCommit .p1 ∧
        firstCommit.corridor.state = .starting ∧ after (exec .cycleZero firstCommit) (runs .p1) = true) := by
  refine ⟨⟨finished _ (by decide) rfl rfl, records_running, by decide, .inr ⟨?_, .inl (by decide)⟩, by decide, by decide,
    by decide, by decide, by decide, ⟨_, rfl⟩, ⟨by decide, by decide⟩, holds_p1 _ (by decide)⟩,
    ⟨finished _ (by decide) rfl rfl, ⟨every ?_, every ?_, every ?_, .nil⟩, by decide, by decide, by decide,
      fun h => h.1 rfl⟩,
    ⟨finished _ (by decide) rfl rfl, records_running, by decide, by decide, .inr ⟨?_, .inl (by decide)⟩⟩,
    ⟨finished _ (by decide) rfl rfl, records_running, ⟨rfl, .inr (by decide)⟩, by decide, by decide +kernel⟩,
    ⟨finished _ (by decide) rfl rfl, ⟨rfl, .inr (by decide)⟩, by decide, by decide +kernel⟩,
    finished _ (by decide) rfl rfl, records_starting, ⟨rfl, .inr (by decide)⟩, by decide, by decide +kernel⟩
  · exact fun q h => nomatch h.1
  · decide +kernel
  · decide +kernel
  · decide +kernel
  · rintro q ⟨h, hq⟩
    cases h
    exact hq.elim (fun h => holdsNone_p2 .k1 (h.1 .k1 ⟨by decide, .inl ⟨by decide, by decide⟩⟩)) fun h => absurd h (by decide)

/-! #### The host's orders -/

theorem witness_HoldDirectionSetsTheMode :
    ((asked idle 0x10 [4]).AtHead 0x10 [4] (req 0x10 [4]) ∧ 3 < (4 : Byte).toNat) ∧
      ((asked running 0x10 [3]).AtHead 0x10 [3] (req 0x10 [3]) ∧ (3 : Byte).toNat = 3) ∧
      (asked running 0x10 [0]).AtHead 0x10 [0] (req 0x10 [0]) ∧ (0 : Byte).toNat = Mode.balanced.code ∧
        (2 : Byte).toNat = Mode.outbound.code :=
  ⟨⟨asked_atHead _ (by decide) _, by decide⟩, ⟨asked_atHead _ (by decide) _, by decide⟩,
    asked_atHead _ (by decide) _, by decide, by decide⟩

theorem witness_FreeJunctionReleases :
    ((asked idle 0x11 [1]).AtHead 0x11 [1] (req 0x11 [1]) ∧ idle.corridor.state = .idle) ∧
      ((asked running 0x11 [13]).AtHead 0x11 [13] (req 0x11 [13]) ∧ running.corridor.state ≠ .idle ∧ NoSlot 13) ∧
      ((asked running 0x11 [12]).AtHead 0x11 [12] (req 0x11 [12]) ∧ IsSlot 12 .k12 ∧
        running.corridor.table.get .k12 = none) ∧
      ((asked starting 0x11 [1]).AtHead 0x11 [1] (req 0x11 [1]) ∧ IsSlot 1 .k1 ∧ starting.corridor.state ≠ .idle ∧
        starting.corridor.table.get .k1 ≠ none ∧ (starting.monitor.get .k1).state = .startingFree) ∧
      (asked running 0x11 [1]).AtHead 0x11 [1] (req 0x11 [1]) ∧ running.corridor.table.get .k1 ≠ none ∧
        (running.monitor.get .k1).state ≠ .startingFree ∧ running.transition.tentative = none := by
  unfold NoSlot IsSlot
  exact ⟨⟨asked_atHead _ (by decide) _, by decide⟩, ⟨asked_atHead _ (by decide) _, by decide, by decide⟩,
    ⟨asked_atHead _ (by decide) _, by decide, by decide⟩,
    ⟨asked_atHead _ (by decide) _, by decide, by decide, by decide, by decide⟩, asked_atHead _ (by decide) _,
    by decide, by decide, by decide⟩

/-- Slot 1 Seeking. -/
def seeking : State := { running2 with monitor := running.monitor.set .k1 { StepRecord.initial with state := .seeking } }

theorem witness_ReseekJunctionReadmits :
    ((asked idle 0x12 [1]).AtHead 0x12 [1] (req 0x12 [1]) ∧ idle.corridor.state ≠ .running) ∧
      ((asked running 0x12 [0]).AtHead 0x12 [0] (req 0x12 [0]) ∧ running.corridor.state = .running ∧ NoSlot 0) ∧
      ((asked running 0x12 [12]).AtHead 0x12 [12] (req 0x12 [12]) ∧ IsSlot 12 .k12 ∧
        running.corridor.table.get .k12 = none) ∧
      ((asked seeking 0x12 [1]).AtHead 0x12 [1] (req 0x12 [1]) ∧ seeking.corridor.state = .running ∧ IsSlot 1 .k1 ∧
        seeking.corridor.table.get .k1 ≠ none ∧ (seeking.monitor.get .k1).state = .seeking) ∧
      ((asked running 0x12 [1]).AtHead 0x12 [1] (req 0x12 [1]) ∧ running.corridor.table.get .k1 ≠ none ∧
        running.directory.active = some .p1 ∧ (running.monitor.get .k1).state = .inStep ∧
        HoldsValid running .k1 .p1 ∧ running.transition.tentative = none) ∧
      ({ running2.directory with active := some .p2 } : DirectoryUnit).active = some .p2 ∧
        ¬ HoldsValid running2 .k1 .p2 := by
  unfold NoSlot IsSlot
  exact ⟨⟨asked_atHead _ (by decide) _, by decide⟩, ⟨asked_atHead _ (by decide) _, by decide, by decide⟩,
    ⟨asked_atHead _ (by decide) _, by decide, by decide⟩,
    ⟨asked_atHead _ (by decide) _, by decide, by decide, by decide, by decide⟩,
    ⟨asked_atHead _ (by decide) _, by decide, by decide, by decide, holds_p1 _ (by decide), by decide⟩,
    by decide, holdsNone_p2 _⟩

theorem witness_SeedQueueSetsTheEstimate :
    ((asked idle 0x13 [1, 0, 9]).AtHead 0x13 [1, 0, 9] (req 0x13 [1, 0, 9]) ∧ idle.corridor.state = .idle) ∧
      ((asked running 0x13 [13, 0, 9]).AtHead 0x13 [13, 0, 9] (req 0x13 [13, 0, 9]) ∧
        running.corridor.state = .running ∧ NoSlot 13) ∧
      ((asked running 0x13 [1, 2, 9]).AtHead 0x13 [1, 2, 9] (req 0x13 [1, 2, 9]) ∧ IsSlot 1 .k1 ∧
        1 < (2 : Byte).toNat) ∧
      ((asked running 0x13 [12, 0, 9]).AtHead 0x13 [12, 0, 9] (req 0x13 [12, 0, 9]) ∧ IsSlot 12 .k12 ∧
        running.corridor.table.get .k12 = none) ∧
      (asked running 0x13 [1, 1, 255]).AtHead 0x13 [1, 1, 255] (req 0x13 [1, 1, 255]) ∧ (1 : Byte).toNat ≤ 1 ∧
        running.corridor.table.get .k1 ≠ none ∧
        running.flow.approaches.get .k1 = some ⟨.initial, .initial⟩ := by
  unfold NoSlot IsSlot
  exact ⟨⟨asked_atHead _ (by decide) _, by decide⟩, ⟨asked_atHead _ (by decide) _, by decide, by decide⟩,
    ⟨asked_atHead _ (by decide) _, by decide, by decide⟩, ⟨asked_atHead _ (by decide) _, by decide, by decide⟩,
    asked_atHead _ (by decide) _, by decide, by decide, by decide⟩

/-- The amounts -400, 401 and 0 as INJECT SKEW carries them, and slots at both ends. -/
theorem witness_InjectSkewIsStored :
    ((asked running 0x14 [0, 0, 9]).AtHead 0x14 [0, 0, 9] (req 0x14 [0, 0, 9]) ∧ NoSlot 0) ∧
      (readI16 1 145 = 401 ∧ readI16 0 0 = 0 ∧ IsSlot 12 .k12) ∧
      (readI16 254 112 = -400 ∧ running.corridor.table.get .k12 = none ∧ IsSlot 1 .k1 ∧
        starting.corridor.table.get .k1 ≠ none ∧ starting.corridor.state ≠ .running) ∧
      ((asked running 0x14 [1, 254, 112]).AtHead 0x14 [1, 254, 112] (req 0x14 [1, 254, 112]) ∧
        running.corridor.table.get .k1 ≠ none ∧ running.corridor.state = .running ∧
        (running.monitor.get .k1).state = .inStep) ∧
      ∃ x y : TransitionRecord, running.transition.records.get .k1 = some x ∧ x.pendingSkew = none ∧
        (running.transition.records.set .k1 (some y)).get .k1 = some y ∧ y.pendingSkew ≠ none := by
  unfold NoSlot IsSlot
  exact ⟨⟨asked_atHead _ (by decide) _, by decide⟩, ⟨by decide, by decide, by decide⟩,
    ⟨by decide, by decide, by decide, by decide, by decide⟩,
    ⟨asked_atHead _ (by decide) _, by decide, by decide, by decide⟩, _,
    { TransitionRecord.initial with pendingSkew := some 5 }, rfl, rfl, rfl, by decide⟩

/-! #### The loopback test -/

/-- A test of one repetition, taken and not yet sent. -/
def loop : Loopback :=
  { repetitions := 1, payload := [0x5A], sent := 0, matched := 0, thisMatched := false, errors := 0 }

/-- The corridor Idle with a loopback test taken. -/
def testing (t : Transmitter) (l : Loopback) : State :=
  { asked idle 0x16 [1, 1, 0x5A] with line := { idle.line with transmitter := t, loopback := some l } }

/-- Each check of R163 in turn, arguments on both sides of their ranges; then each event of a test, the copy with the
longest payload. -/
theorem witness_LoopbackTestHoldsTheQueueAndRuns :
    let l := { loop with sent := 1, payload := List.replicate 64 0 }
    ((asked running 0x16 [1, 1, 0]).AtHead 0x16 [1, 1, 0] (req 0x16 [1, 1, 0]) ∧ running.corridor.state ≠ .idle) ∧
      ((asked idle 0x16 [1, 1, 0]).AtHead 0x16 [1, 1, 0] (req 0x16 [1, 1, 0]) ∧ idle.corridor.state = .idle ∧
        (1 : Byte).toNat = ([0] : List Byte).length) ∧
      ((asked idle 0x16 (16 :: 64 :: List.replicate 64 0)).AtHead 0x16 (16 :: 64 :: List.replicate 64 0)
          (req 0x16 (16 :: 64 :: List.replicate 64 0)) ∧
        (64 : Byte).toNat = (List.replicate 64 (0 : Byte)).length) ∧
      ((asked idle 0x16 [0, 0]).AtHead 0x16 [0, 0] (req 0x16 [0, 0]) ∧ (0 : Byte).toNat = 0 ∧
        16 < (17 : Byte).toNat ∧ (0 : Byte).toNat = ([] : List Byte).length) ∧
      ((asked idle 0x16 (1 :: 65 :: List.replicate 65 0)).AtHead 0x16 (1 :: 65 :: List.replicate 65 0)
          (req 0x16 (1 :: 65 :: List.replicate 65 0)) ∧
        (65 : Byte).toNat = (List.replicate 65 (0 : Byte)).length ∧ 64 < (List.replicate 65 (0 : Byte)).length) ∧
      ((testing .free loop).line.loopback = some loop ∧ (testing .free loop).line.transmitter = .free) ∧
      ((testing .test loop).line.transmitter = .test ∧ loop.sent < loop.repetitions) ∧
      ((testing .test l).line.loopback = some l ∧ (testing .test l).line.transmitter = .test ∧
        (testing .test l).line.assembly = none ∧ 1 ≤ l.sent ∧ l.payload.length ≤ 64 ∧ l.thisMatched = false) ∧
      ((List.replicate 83 (0 : Byte)).length ≤ 83 ∧ (1 : Byte) ≠ 0 ∧ (0x82 : Byte) ≠ 0x0F ∧
        u8 2 :: l.payload ≠ u8 l.sent :: l.payload ∧ [(0 : Byte), 0] ≠ crcBytes (0 :: 0x0F :: 1 :: [1])) ∧
      (let frame := lineFrame 0 0x0F (u8 l.sent :: l.payload)
        let chars := frame.take 3 ++ ⟨0x5A, false, true⟩ :: (frame.drop 4).dropLast ++ [⟨0, true, false⟩]
        chars.length = frame.length ∧ (∀ c ∈ chars.zip frame, c.1 = c.2 ∨ goodChar c.1 = false) ∧
          ∃ c ∈ chars.drop 3, goodChar c = false) ∧
      (testing .test l).host.queue = req 0x16 [1, 1, 0x5A] :: [] ∧ l.sent = l.repetitions :=
  ⟨⟨asked_atHead _ (by decide) _, by decide⟩, ⟨asked_atHead _ (by decide) _, by decide, by decide⟩,
    ⟨asked_atHead _ (by decide) _, by decide +kernel⟩, ⟨asked_atHead _ (by decide) _, by decide, by decide, by decide⟩,
    ⟨asked_atHead _ (by decide) _, by decide +kernel, by decide +kernel⟩, by decide, by decide, by decide +kernel,
    by decide +kernel, by decide +kernel, by decide +kernel⟩

/-! #### The corridor line and the master cycle -/

/-- The state just after a cycle zero, its beacon waiting: what CYCLE_ZERO answers on the Running corridor. -/
def zero : State := running.cycleZero 6

/-- The beacon that waits there. -/
def waitingBeacon : Beacon := { sequence := 6, cycle := 800, plan := some .p1, entries := entries, stopping := false }
where
  entries : List BeaconEntry :=
    [⟨11, .run, .d1, 800⟩, ⟨12, .run, .d1, 800⟩, ⟨13, .run, .d1, 800⟩, ⟨14, .run, .d1, 800⟩]

/-- CYCLE_ZERO on the Running corridor, and the lateness at both ends of its range. -/
theorem witness_BeaconBeginMakesRecordsStanding :
    zero.line.beacon = .waiting 50 ∧ zero.line.queue = .beacon waitingBeacon :: [] ∧ zero.line.Ready ∧
      zero.clock.masterTime ≤ 0 ∧ zero.clock.masterTime ≤ 50 ∧ (50 : Nat) ≤ 50 ∧
      (∃ n, zero.transition.tentative = some n ∧ ∃ c, n.copies.get .k1 = some c) ∧ zero.transition.held = [] ∧
      zero.corridor.table.get .k1 ≠ none := by
  unfold Line.Ready
  exact ⟨by decide +kernel, by decide +kernel, by decide +kernel, by decide +kernel, by decide +kernel, by decide,
    ⟨_, rfl, _, rfl⟩, by decide +kernel, by decide +kernel⟩

/-- Quiet, held by a reply awaited alone in its window and while its frame is still being sent, and master time at the
instant itself. -/
theorem witness_BeaconWithdrawnKeepsTheModels :
    (zero.line.beacon = .waiting 50 ∧ zero.clock.masterTime ≤ 50 + 1 ∧ zero.transition.held = [] ∧
        zero.line.exchange = none) ∧
      (({ zero.line with exchange := some (exchange .download 1) } : Line).exchange ≠ none ∧
        ({ zero.line with exchange := some { exchange .download 1 with window := none } } : Line).exchange ≠ none ∧
        zero.line.carrier = false ∧ zero.line.assembly = none) ∧
      ({ zero.clock with masterTime := 51 } : Clock).masterTime ≤ 50 + 1 := by decide +kernel

theorem witness_BeaconSentSweepsOrStops :
    (({ running.line with beacon := .sending waitingBeacon } : Line).beacon = .sending waitingBeacon ∧
        waitingBeacon.stopping = false) ∧
      ({ waitingBeacon with stopping := true } : Beacon).stopping = true := by decide

/-- A queued frame of the longest image. -/
def imageLoad : ImageLoad := { slot := .k2, plan := .p2, target := .d3, content := ⟨800, 400, List.replicate 48 0⟩ }

/-- A retry and a first poll, a download frame, and a POLL on the line, its exchange open and ended at the sweep
deadline. -/
theorem witness_ExchangesBegin :
    let w1 : Sweep := { sequence := 5, current := some (.k1, 2), waiting := [] }
    let w2 : Sweep := { sequence := 5, current := none, waiting := [.k1] }
    let q : Line := { running.line with period := true, queue := [.load imageLoad] }
    let o : Order := ⟨.k2, .p2, .queued, 0, some .d3, some imageLoad.content, false⟩
    let l : Line :=
      { running.line with
        transmitter := .sending, beacon := .sent, exchange := some { exchange .poll 1 with window := none } }
    (({ running.line with sweep := some w1 } : Line).sweep = some w1 ∧ running.line.Ready ∧
        (∃ j, running.corridor.table.get .k1 = some j) ∧ w1.current = some (.k1, 2)) ∧
      (w2.current = none ∧ w2.waiting = .k1 :: []) ∧
      (q.period = true ∧ q.queue = .load imageLoad :: [] ∧ q.Ready ∧
        (∃ j, running.corridor.table.get imageLoad.slot = some j) ∧ ∀ x ∈ [o], x.stage ≠ .waiting) ∧
      l.transmitter = .sending ∧ (∀ b, l.beacon ≠ .sending b) ∧ l.exchange ≠ none ∧
        ({ l with exchange := none } : Line).exchange = none :=
  ⟨⟨rfl, ⟨rfl, rfl, rfl⟩, ⟨_, rfl⟩, rfl⟩, ⟨rfl, rfl⟩, ⟨rfl, rfl, ⟨rfl, rfl, rfl⟩, ⟨_, rfl⟩, by decide +kernel⟩, rfl,
    by simp, by simp, rfl⟩

/-- Slot 2 with `n` misses behind it. -/
def missing (attempt n : Nat) : State :=
  { listening running .poll attempt with
    monitor := running.monitor.modify .k2 fun r => { r with misses := n } }

/-- A frame in the window, attempt 1, and attempt 2 after one miss and after two, of a junction InStep and of one that is
Yielded. -/
theorem witness_TimeoutRetriesThenMisses :
    let w : Sweep := { sequence := 5, current := some (.k2, 2), waiting := [.k3] }
    let f : RxFrame := { chars := [], tag := some { slot := .k2, address := 12, live := true } }
    (({ (missing 1 0).line with assembly := some f } : Line).assembly = some f ∧
        ∃ tag, f.tag = some tag ∧ tag.live = true) ∧
      ((missing 1 0).line.exchange = some (exchange .poll 1) ∧ (exchange .poll 1).kind = .poll ∧
        (exchange .poll 1).window ≠ none ∧ (exchange .poll 1).attempt = 1) ∧
      ((missing 2 0).line.exchange = some (exchange .poll 2) ∧ (exchange .poll 2).attempt = 2 ∧
        (missing 2 0).line.assembly = none ∧ (missing 2 0).line.unchecked = [] ∧
        (missing 2 0).line.sweep = some w ∧ w.waiting ≠ []) ∧
      ((missing 2 1).monitor.get .k2).state = .inStep ∧ ((missing 2 1).monitor.get .k2).misses ≠ 2 ∧
        ((missing 2 2).monitor.get .k2).misses = 2 ∧ (missing 2 2).transition.tentative = none ∧
        (∃ x o, (missing 2 2).transition.records.get .k2 = some x ∧ x.model = .valid o) ∧
        (((missing 2 1).monitor.set .k2 { StepRecord.initial with state := .yielded }).get .k2).state = .yielded :=
  ⟨⟨rfl, _, rfl, rfl⟩, ⟨rfl, rfl, by decide, rfl⟩, ⟨rfl, rfl, rfl, rfl, rfl, by decide⟩, by decide +kernel,
    by decide +kernel, by decide +kernel, rfl, ⟨_, _, rfl, rfl⟩, rfl⟩

/-- A frame that began outside every window, and one in the window of a poll, 94 characters long and at its length; the
slot defined at the exchange's address, and at another; a buffer of 96 characters; and a frame of wrong CRC. -/
theorem witness_DamagedFramesAreBad :
    let f : RxFrame := { chars := List.replicate 94 0, tag := none }
    let g : Nat → RxFrame := fun n =>
      { chars := List.replicate n 0, tag := some { slot := .k2, address := 12, live := true } }
    let s : Nat → State := fun n =>
      { missing 2 0 with line := { (missing 2 0).line with assembly := some (g n) } }
    let full : Line := { (s 0).line with unchecked := [{ chars := List.replicate 94 0, tag := none }] }
    let bad : LineChar := ⟨0, false, true⟩
    (({ running.line with assembly := some f } : Line).assembly = some f ∧ f.tag = none ∧ f.chars.length < 95 ∧
        running.line.carrier = false ∧ running.line.hears = true ∧ running.line.unchecked = []) ∧
      ((s 94).line.transmitter = .awaiting ∧ (s 94).line.exchange = some (exchange .poll 2) ∧
        (exchange .poll 2).kind = .poll ∧ (s 94).line.sweep ≠ none ∧ (s 94).line.unchecked = [] ∧
        InWindow (s 94) (exchange .poll 2) (g 94) ∧ (g 94).chars.length < 95 ∧ goodChar bad = false ∧
        (g 2).chars.length = 2 ∧ 83 < (sendChar 84).data.toNat ∧ (s 94).line.carrier = false) ∧
      (∃ j, (s 94).corridor.table.get (exchange .poll 2).slot = some j ∧ j.address = (exchange .poll 2).address ∧
        j.address ≠ ({ exchange .poll 2 with address := 31 } : Exchange).address) ∧
      96 ≤ (full.unchecked.map fun u => u.chars.length + 1).sum + ((g 0).chars.length + 1) ∧
      (Listening (missing 2 0) (exchange .poll 2) ∧ (List.replicate 83 (0 : Byte)).length ≤ 83 ∧
        [(0 : Byte), 0] ≠ crcBytes [12, 0x82, 0]) := by
  refine ⟨by decide +kernel, ⟨rfl, rfl, rfl, by decide, rfl, ⟨rfl, rfl⟩, by decide +kernel, by decide, by decide,
    by decide, rfl⟩, ⟨_, rfl, rfl, by decide⟩, by decide +kernel, ⟨rfl, rfl, by decide, by decide, rfl, rfl⟩,
    by decide +kernel, by decide +kernel⟩

/-- The sweep of `listening`. -/
def sweep : Sweep := { sequence := 5, current := some (.k2, 1), waiting := [.k3] }

/-- The report of the example below R101 in local mode `mode`, of running slot `running`. -/
def report (running mode : Byte) : ReportBytes := ⟨1, 162, running, mode, 9, 5, 40, 0, 3, 3, 20, 0⟩

/-- `listening` with the step record of slot 2 changed. -/
def reporting (f : StepRecord → StepRecord) : State :=
  { listening running .poll 1 with monitor := running.monitor.modify .k2 f }

theorem awaits (f : StepRecord → StepRecord) : AwaitsReport (reporting f) (exchange .poll 1) sweep :=
  ⟨⟨⟨rfl, rfl, by simp [exchange], by simp [exchange], rfl, rfl⟩, rfl, rfl, by decide⟩, by decide⟩

/-- Another address, another kind, a report of no bytes and of thirteen with a running slot of 4 or a local mode of 4, and
an echo one cycle old. -/
theorem witness_ReportsAreCheckedBeforeTheyAct :
    AwaitsReport (reporting id) (exchange .poll 1) sweep ∧ (13 ≠ (exchange .poll 1).address ∧ 0x83 ≠ 0x82) ∧
      (∀ (r : ReportBytes) mode echo, r.Formed mode → ([] : List Byte) ≠ r.body echo) ∧
      (∀ (r : ReportBytes) mode echo, r.Formed mode → (report 4 0).body 5 ≠ r.body echo) ∧
      (∀ (r : ReportBytes) mode echo, r.Formed mode → (report 3 4).body 5 ≠ r.body echo) ∧
      ((report 4 0).body 5).length ≤ 83 ∧ (report 1 0).Formed .coordinated ∧ 4 ≠ sweep.sequence := by
  refine ⟨awaits _, by decide, (fun r m e _ h => nomatch h), fun r m e hf h => ?_, fun r m e hf h => ?_, by decide,
    by unfold ReportBytes.Formed; decide, by decide⟩
  · simp only [ReportBytes.body, report, List.cons.injEq] at h
    exact absurd hf.1 (by rw [← h.2.2.2.1]; decide)
  · simp only [ReportBytes.body, report, List.cons.injEq] at h
    have := hf.2
    rw [← h.2.2.2.2.1] at this
    cases m <;> exact absurd this (by decide)

/-- The report with no flag set, and with every flag of the inbound approach set. -/
theorem witness_CurrentReportIsDelivered :
    AwaitsReport (reporting id) (exchange .poll 1) sweep ∧ Remembers (reporting id) (exchange .poll 1) memory ∧
      (reporting id).flow.approaches.get (exchange .poll 1).slot = some ⟨.initial, .initial⟩ ∧
      (report 3 0).Formed .coordinated ∧ (report 0 3).Formed .flash ∧
      ({ report 0 3 with fi := 7 } : ReportBytes).inbound.stopFault = true := by
  unfold Remembers ReportBytes.Formed
  exact ⟨awaits _, by decide +kernel, by decide +kernel, by decide, by decide, by decide⟩

/-- Each clause: the local override, a return to Seeking with and without a retained offset, an unjudged report, and
the states that a report leaves alone. -/
theorem witness_UnjudgedReportsAct :
    let kept : Memory := { memory with expected := .retained 400 }
    let free : Memory := { memory with command := .free }
    (AwaitsReport (reporting id) (exchange .poll 1) sweep ∧ Remembers (reporting id) (exchange .poll 1) memory ∧
        (report 0 3).Formed .flash ∧ Overrides (reporting id) .flash ∧
        ((reporting id).monitor.get .k2).state = .inStep) ∧
      (Remembers (reporting fun r => { r with state := .absent, memory := some kept }) (exchange .poll 1) kept ∧
        ((reporting fun r => { r with state := .absent, memory := some kept }).monitor.get .k2).state = .absent ∧
        kept.expected = .retained 400 ∧ IsError kept.cycle ((measuredOf kept (report 1 0).u : Int) - 400) 21 ∧
        (reporting id).corridor.settings.tolerance < (21 : Int).natAbs ∧
        IsError kept.cycle ((measuredOf kept (report 1 0).u : Int) - 401) 20 ∧
        (20 : Int).natAbs ≤ (reporting id).corridor.settings.tolerance) ∧
      (∀ o, memory.expected ≠ .retained o) ∧
      (Remembers (reporting fun r => { r with state := .seeking, memory := some free }) (exchange .poll 1) free ∧
        ¬ Overrides (reporting id) .coordinated ∧ free.command ≠ .run) ∧
      ((reporting fun r => { r with state := .yielded }).monitor.get .k2).state = .yielded ∧
      ((reporting fun r => { r with state := .released }).monitor.get .k2).state = .released := by
  unfold Remembers ReportBytes.Formed Overrides IsError
  exact ⟨⟨awaits _, by decide +kernel, by decide, by decide +kernel, by decide +kernel⟩,
    ⟨by decide +kernel, by decide +kernel, rfl, ⟨by decide +kernel, by decide +kernel, 0, by decide +kernel⟩,
      by decide +kernel, ⟨by decide +kernel, by decide +kernel, 0, by decide +kernel⟩, by decide +kernel⟩,
    fun o => by simp [memory], ⟨by decide +kernel, by decide +kernel, by decide⟩, by decide +kernel,
    by decide +kernel⟩

/-- Each state that judges a report, an error at the tolerance and beyond it, and the second slip of a window. -/
theorem witness_JudgedReportsMoveTheJunction :
    let s := reporting fun r => { r with state := .inStep, window := [.slip] }
    AwaitsReport s (exchange .poll 1) sweep ∧ Remembers s (exchange .poll 1) memory ∧
      (report 1 0).Formed .coordinated ∧ memory.command = .run ∧ memory.expected = .valid 421 ∧
      ¬ Overrides s .coordinated ∧ IsError memory.cycle ((measuredOf memory (report 1 0).u : Int) - 421) 0 ∧
      Matches s memory (report 1 0) .coordinated 20 ∧ ¬ Matches s memory (report 1 0) .coordinated 21 ∧
      ¬ Matches s memory (report 2 0) .coordinated 0 ∧
      ((reporting fun r => { r with state := .seeking }).monitor.get .k2).state = .seeking ∧
      ((reporting fun r => { r with state := .confirming }).monitor.get .k2).state = .confirming ∧
      (s.monitor.get .k2).state = .inStep ∧
      (2 ≤ (joined 5 [.slip] .slip).count .slip ∧ s.corridor.settings.relock = true) ∧
      ¬ 2 ≤ (joined 5 [] .slip).count .slip := by
  unfold Remembers ReportBytes.Formed Overrides Matches
  exact ⟨awaits _, by decide +kernel, by decide, rfl, rfl, by decide +kernel,
    ⟨by decide +kernel, by decide +kernel, 0, by decide +kernel⟩, by decide +kernel, by decide +kernel,
    by decide +kernel, by decide +kernel, by decide +kernel, by decide +kernel, by decide +kernel, by decide +kernel⟩

/-- The sweep with two slots left, each of them once, and master time at the deadline itself; a slot at its third miss in
a row, with a model to keep, and one that is not left. -/
theorem witness_SweepDeadlineMissesTheRest :
    let base := listening running .poll 1
    let s : State := { base with
      monitor := base.monitor.set .k2 { base.monitor.get .k2 with state := .inStep, misses := 2 }
      transition := { base.transition with
        records := base.transition.records.set .k2 (some { TransitionRecord.initial with model := .valid 421 }) } }
    s.line.sweep = some sweep ∧ s.clock.masterTime ≤ s.clock.length - 100 ∧
      (sweep.current.map Prod.fst).toList ++ sweep.waiting = .k2 :: [.k3] ∧
      ([.k2, .k3] : List Slot).count .k2 = 1 ∧ ([.k2, .k3] : List Slot).count .k3 = 1 ∧
      Slot.k1 ∉ ([.k2, .k3] : List Slot) ∧ CountsMisses (s.monitor.get .k2) ∧ (s.monitor.get .k2).misses = 2 ∧
      s.transition.tentative = none ∧
      (∃ x, s.transition.records.get .k2 = some x ∧ x.model = .valid 421) ∧
      ({ s.clock with masterTime := 700 } : Clock).masterTime ≤ s.clock.length - 100 :=
  ⟨rfl, by decide, rfl, by decide, by decide, by decide, .inr (.inr rfl), rfl, rfl, ⟨_, rfl, rfl⟩, by decide⟩

/-- Volumes on both sides of the minimum, DR at the entry of each direction, a hold, and a candidate at its second and
its third sweep complete; the last poll, in its window; and a complete plan in force, Running and Starting. -/
theorem witness_SweepCompleteConfirmsTheDirection :
    let s := listening running .poll 2
    let g := s.corridor.settings
    let v : Nat → Nat → Flow := fun i o => { s.flow with volumeIn := i, volumeOut := o }
    let f : Nat → Flow := fun n => { s.flow with candidate := some .inbound, confirmation := n }
    let w : Sweep := { sequence := 5, current := some (.k2, 2), waiting := [] }
    let last : State := { s with line := { s.line with sweep := some w } }
    let lost : DirectoryUnit := { s.directory with dirs := s.directory.dirs.set .k2 .initial }
    (s.line.sweep ≠ none ∧ s.clock.masterTime ≤ s.clock.length - 100) ∧
      ({ s.flow with hold := some .inbound } : Flow).hold ≠ none ∧ s.flow.hold = none ∧
      Candidate g (v 39 0) 255 .balanced ∧ Candidate g (v 40 32) 20 .inbound ∧ Candidate g (v 24 32) 12 .outbound ∧
      Candidate g (v 30 30) 16 .balanced ∧ Mode.inbound ≠ s.flow.mode ∧ s.flow.candidate ≠ some .inbound ∧
      ((f 1).candidate = some .inbound ∧ (f 1).confirmation < 2 ∧ 2 ≤ (f 2).confirmation) ∧
      (Polling last (exchange .poll 2) w ∧ w.waiting = [] ∧ (exchange .poll 2).attempt = 2 ∧
        last.flow.approaches.get (exchange .poll 2).slot = some ⟨.initial, .initial⟩ ∧
        (report 1 0).Formed .coordinated) ∧
      (s.corridor.state = .running ∧ InForce s .p1 ∧ Complete s .p1 ∧ (s.plans.get .p1).loss ≠ none ∧
        (s.plans.get .p1).headway ≠ none ∧ (s.plans.get .p1).wIn ≠ none ∧ (s.plans.get .p1).wOut ≠ none) ∧
      (starting.corridor.state = .starting ∧ InForce starting .p1 ∧ Complete starting .p1) ∧
      (RecordsLegal { last with directory := lost } ∧ DirectoryLegal { last with directory := lost } ∧
        last.corridor.table.get .k2 ≠ none ∧ NeededAt { last with directory := lost } .k2 .p1) ∧
      4 ≤ (List.replicate 4 (TxFrame.load ⟨.k2, .p1, .d0, ⟨800, 400, []⟩⟩)).length ∧
      stopping.corridor.state = .stopping := by
  unfold Candidate Thin ReportBytes.Formed
  refine ⟨by decide, by decide, by decide, by decide +kernel, by decide +kernel, by decide +kernel, by decide +kernel,
    by decide, by decide, by decide,
    ⟨⟨⟨rfl, rfl, by decide, by decide, rfl, rfl⟩, rfl, rfl, by decide⟩, rfl, rfl, by decide +kernel, by decide⟩,
    ⟨rfl, .inl rfl, plan_complete, by decide, by decide, by decide, by decide⟩,
    ⟨rfl, .inr ⟨rfl, rfl⟩, plan_complete⟩,
    ⟨records_running, plain_directories rfl rfl (fun k x p m c h => ?_), by decide,
      .inl ⟨?_, .inr ⟨rfl, rfl⟩⟩⟩, by decide, rfl⟩
  · by_cases e : k = .k2
    · subst e; cases x <;> cases h
    · have same := PerSlot.get_set_ne running.directory.dirs e Directory.initial
      exact no_download rfl k x p m c ((congrArg (Directory.get · x) same).symm.trans h)
  · rintro ⟨x, h⟩
    cases x <;> cases h

/-- CYCLE_SUMMARY masked, unmasked with one place left in the notice queue, and unmasked with none. -/
theorem witness_ComputationGivesOffsetsBelowC :
    let n : Notice := ⟨.hostFrameError .crc, none, ⟨0, none, none⟩, false⟩
    let u : Nat → NoticeUnit := fun k =>
      { running.notices with masks := { Masks.allMasked with cycleSummary := true }, queue := List.replicate k n }
    ({ running.engine with inFlight := some (snapshot 399) } : Engine).inFlight = some (snapshot 399) ∧
      0 < (snapshot 399).cycle ∧ (snapshot 399).slots.get (snapshot 399).ref ≠ none ∧
      running.notices.masks.cycleSummary = false ∧ ((u 31).masks.cycleSummary = true ∧ (u 31).queue.length < 32) ∧
      ¬ (u 32).queue.length < 32 := by decide +kernel

/-- The links of the worked case, outermost and innermost among them. -/
theorem witness_ChainFollowsTheLinks :
    ({ running.engine with inFlight := some (snapshot 399) } : Engine).inFlight = some (snapshot 399) ∧
      0 < (snapshot 399).cycle ∧ 0 < (snapshot 399).sIn ∧ 0 < (snapshot 399).sOut ∧
      (snapshot 399).slots.get (snapshot 399).ref ≠ none ∧ Linked (snapshot 399) .k1 .k2 ∧
      Linked (snapshot 399) .k3 .k4 := by
  refine ⟨rfl, by decide, by decide, by decide, by decide, ⟨by decide, by decide, by decide, every ?_⟩,
    by decide, by decide, by decide, every ?_⟩ <;> decide

/-- The worked case with slots 2 and 4 not counted: two are, and the positions in travel time are those of its links. -/
theorem witness_BandsFollowTheWalk :
    let n : Snapshot :=
      { snapshot 399 with
        slots := (((snapshot 399).slots.modify .k2 (Option.map fun x => { x with counted := false })).modify .k4
          (Option.map fun x => { x with counted := false })) }
    let place : Nat → Nat → Nat → Slot → Int := fun a b c k =>
      match k with | .k2 => a | .k3 => a + b | .k4 => a + b + c | _ => 0
    0 < n.cycle ∧ 0 < n.sIn ∧ 0 < n.sOut ∧ Ascending [.k1, .k3] ∧
      (∀ k, k ∈ [Slot.k1, .k3] ↔ ∃ x, n.slots.get k = some x ∧ x.counted = true) ∧
      (∃ x y, n.slots.get .k1 = some x ∧ x.offset = some 388 ∧ n.slots.get .k3 = some y ∧ y.offset = some 399) ∧
      TravelsAt n n.sIn (place 403 410 396) ∧ TravelsAt n n.sOut (place 448 456 440) := by
  intro n place
  have link : ∀ v (pos : Slot → Int),
      (∀ a ∈ Slot.all, ∀ b ∈ Slot.all, ∀ xa ∈ n.slots.get a, ∀ xb ∈ n.slots.get b, a.num < b.num →
        (∀ m ∈ Slot.all, a.num < m.num → m.num < b.num → n.slots.get m = none) →
        (2 * v * travelTime (xb.position - xa.position) v ≤ 200 * (xb.position - xa.position) + v ∧
          200 * (xb.position - xa.position) + v < 2 * v * (travelTime (xb.position - xa.position) v + 1)) ∧
          pos b = pos a + travelTime (xb.position - xa.position) v) → TravelsAt n v pos :=
    fun v pos h a b xa xb hl ha hb =>
      ⟨_, h a (Slot.mem_all a) b (Slot.mem_all b) xa ha xb hb hl.2.2.1 fun m _ => hl.2.2.2 m⟩
  refine ⟨by decide, by decide, by decide, by unfold Ascending; decide, every ?_, ⟨_, _, rfl, rfl, rfl, rfl⟩,
    link _ _ ?_, link _ _ ?_⟩
  · have h : ∀ k ∈ Slot.all, (k ∈ [Slot.k1, .k3] ↔ (n.slots.get k).any (fun x => x.counted) = true) := by decide +kernel
    intro k hk
    rw [h k hk, Option.any_eq_true]
  · decide +kernel
  · decide +kernel

theorem witness_GuardAndQualityWindowFall :
    running.corridor.state ≠ .idle ∧ (∀ n, running.line.beacon ≠ .waiting n) ∧
      (∀ b, running.line.beacon ≠ .sending b) ∧ running.line.sweep = none ∧
      running.clock.masterTime ≤ running.clock.length - 60 ∧
      ({ running.clock with masterTime := 740 } : Clock).masterTime ≤ running.clock.length - 60 := by
  refine ⟨by decide, ?_, ?_, by decide, by decide, by decide⟩ <;> simp [running, idle, State.reset]

/-! ### Single steps on the model corridor -/

/-- START 1: Starting, the count already decreased, and a FREE beacon for the four junctions (1.6). -/
theorem test_start_assembles_a_free_beacon :
    after (exec .start (asked idle 0x0C [1])) (fun t =>
      t.corridor.state == .starting && t.directory.deadline == 2 && t.clock.sequence == 0 &&
        t.line.queue == [.beacon
          { sequence := 0, cycle := 800, plan := some .p1, stopping := false
            entries := [⟨11, .free, .d0, 800⟩, ⟨12, .free, .d0, 800⟩, ⟨13, .free, .d0, 800⟩,
              ⟨14, .free, .d0, 800⟩] }]) = true := by decide +kernel

/-- The complete commit of 1.6: every junction answered and holds the plan. -/
theorem test_cycle_zero_commits_and_makes_absent :
    after (exec .cycleZero
        { starting with
          monitor := starting.monitor.mapSlot fun k r => if laid k then { r with sweep := .answered } else r })
      (fun t =>
        t.corridor.state == .running && t.directory.active == some .p1 && t.clock.sequence == 6 &&
          (Slot.all.take 4).all fun k => (t.monitor.get k).state == .absent) = true := by decide +kernel

/-- The report of the example below R101 reaches slot 2, and the sweep goes on to slot 3. -/
theorem test_report_is_measured :
    after (exec (.corridorFrameReceived (lineFrame 12 0x82 [5, 1, 162, 1, 0, 9, 5, 40, 0, 3, 3, 20, 0]) false true)
        (listening running .poll 1))
      (fun t =>
        (t.monitor.get .k2).measured == some 421 && (t.monitor.get .k2).error == some 0 &&
          ((t.flow.approaches.get .k2).map fun b => b.inbound.queue) == some 4 &&
          t.line.exchange == none && (t.line.sweep.map fun w => w.waiting) == some [.k3]) = true := by decide +kernel

/-- A junction Absent by misses that has since reported in Free mode is still compared with its retained offset: 421
against 400 is above the tolerance of 20 (R103, R110). -/
theorem test_return_is_realigned :
    after (exec ((report 1 0).arrives (exchange .poll 1) 5 false)
        (reporting fun r => { r with state := .absent, misses := 0, memory := some { memory with expected := .retained 400 } }))
      (fun t =>
        (t.monitor.get .k2).state == .seeking && (t.monitor.get .k2).error == some 21 &&
          (t.notices.slots.get .k2).realigned.data == some (.realigned 400 421 21)) = true := by decide +kernel

/-- A frame that began in the window is received to its end after the window closes, and then ends the exchange
(R151). -/
theorem test_frame_outlives_the_window :
    let chars := lineFrame 12 0x82 [5, 1, 162, 1, 0, 9, 5, 40, 0, 3, 3, 20, 0]
    after (exec (.corridorFrameReceived (chars.take 4) true true) (listening running .poll 1)) (fun s =>
      after (exec .replyTimeout s) fun t =>
        t.line.exchange == some { exchange .poll 1 with window := none } &&
          after (exec (.corridorFrameReceived (chars.drop 4) false true) t) fun u =>
            (u.monitor.get .k2).measured == some 421 && u.line.exchange == none) = true := by decide +kernel

/-- A character of wrong parity ends the frame, which counts against slot 2, and attempt 2 follows (R149, R158). -/
theorem test_bad_parity_is_counted :
    after (exec (.corridorFrameReceived
        ((lineFrame 12 0x82 [5]).take 6 ++ [⟨0, false, true⟩]) false true) (listening running .poll 1))
      (fun t =>
        (t.line.quality.get .k2).count == 1 && (t.line.sweep.map fun w => w.current) == some (some (.k2, 2))) = true := by
  decide +kernel

/-- Plan 1 is written while a download stands over its Valid copy: the prior content becomes Stale, as row 3 of R125 says,
also where the download is of plan 1 itself, which is marked too. -/
theorem test_write_marks_the_prior_content :
    (SlotContent.loading .p1 false (.valid .p1)).structureChanged .p1 = .loading .p1 true (.stale .p1) ∧
      (SlotContent.loading .p3 false (.valid .p1)).structureChanged .p1 = .loading .p3 false (.stale .p1) := by decide

/-- The running slot takes no download: the order for the active plan that has come back is removed (R130). -/
theorem test_running_slot_takes_no_download :
    after (exec .preloadPlan (asked restored 0x0F [2])) (fun t =>
      t.directory.orders == [] && t.line.queue == [] && (t.directory.dirs.get .k4).get .d1 == .valid .p1) = true := by
  decide +kernel

/-- The active plan that a cancel brings back readmits a junction Excluded for want of it (R118, R133). -/
theorem test_cancel_readmits :
    after (exec .switchPlan (asked overActive 0x0E [0])) (fun t =>
      (t.monitor.get .k2).state == .absent && (t.directory.dirs.get .k2).get .d3 == .valid .p1) = true := by
  decide +kernel

/-- IDENTIFY reports the family, the revision and the capacities (R183). -/
theorem test_identify_reply : reply (exec .identify (asked idle 0x01 [])) = some [0, 0x0C, 0x12, 1, 12, 16, 4, 4, 16, 32] :=
  by decide +kernel

/-- A position equal to its neighbour's is no increase: ORDER_VIOLATION (R2). -/
theorem test_define_refuses_equal_position :
    reply (exec .defineJunction (asked idle 0x05 [5, 31, 6, 144, 1, 4, 0, 50, 7, 208])) = some [6] := by
  decide +kernel

/-- The first relation is over every set green: with 460 stored for slot 4, the item that writes G[1] comes first
(R27). -/
theorem test_relation_names_its_first_item :
    reply (exec .writePlan (asked idle 0x08 [1, 0, 2, 1, 1, 44, 1, 1, 244])) = some [3, 1] := by decide +kernel

/-- A request on an empty queue is no event of the part. -/
theorem test_request_needs_a_record : exec .stop idle = .fault .noRequestWaiting := by rfl

end Sys2Proof.Tests
end

section
/-! PROOFS. How quantities, slot and plan numbers stand in bytes, and how a request taken from the head of the queue is
answered (R180, R181, R194, R195). -/

namespace Sys2Proof.Proofs.TimingPlans

open Sys2Proof.Machine Sys2Proof.Claims

/-! ### Bytes -/

theorem u8_toNat (b : Byte) : u8 b.toNat = b := by simp [u8]

theorem toNat_u8 {n : Nat} (h : n < 256) : (u8 n).toNat = n := by simp [u8, Nat.mod_eq_of_lt h]

theorem u16_readU16 (hi lo : Byte) : u16 (readU16 hi lo) = [hi, lo] := by
  have hlo := lo.isLt
  have high : (hi.toNat * 256 + lo.toNat) / 256 = hi.toNat := by omega
  have low : u8 (hi.toNat * 256 + lo.toNat) = lo := by
    apply BitVec.eq_of_toNat_eq
    simp only [u8, BitVec.toNat_ofNat]
    omega
  simp [u16, readU16, high, low, u8_toNat]

theorem readU16_u16 {v : Nat} (h : v < 65536) : readU16 (u8 (v / 256)) (u8 v) = v := by
  simp [readU16, u8]
  omega

theorem readU16_lt (hi lo : Byte) : readU16 hi lo < 65536 := by
  have := hi.isLt
  have := lo.isLt
  simp only [readU16]
  omega

theorem boolByte_eq_one (b : Bool) : (boolByte b == 1) = b := by cases b <;> decide

theorem toNat_boolByte_le (b : Bool) : (boolByte b).toNat ≤ 1 := by cases b <;> decide

theorem length_u16 (n : Nat) : (u16 n).length = 2 := rfl

theorem length_i16 (n : Int) : (i16 n).length = 2 := rfl

theorem length_optU16 (v : Option Nat) : (optU16 v).length = 2 := by cases v <;> rfl

/-! ### Slot and plan numbers in bytes -/

theorem num_slot_range (k : Slot) : 1 ≤ k.num ∧ k.num ≤ 12 := by cases k <;> decide

theorem num_plan_range (p : PlanNo) : 1 ≤ p.num ∧ p.num ≤ 16 := by cases p <;> decide

theorem slotOfNum_none {n : Nat} (h : n = 0 ∨ 12 < n) : Slot.ofNum n = none := by
  cases hk : Slot.ofNum n with
  | none => rfl
  | some k =>
    have := Slot.num_of_ofNum hk
    have := num_slot_range k
    omega

theorem exists_slot_num {n : Nat} (h : 1 ≤ n) (h' : n ≤ 12) : ∃ k : Slot, k.num = n := by
  have found : ∀ m : Fin 13, 1 ≤ m.val → ∃ k ∈ Slot.all, k.num = m.val := by decide
  obtain ⟨k, -, hk⟩ := found ⟨n, by omega⟩ h
  exact ⟨k, hk⟩

theorem exists_plan_num {n : Nat} (h : 1 ≤ n) (h' : n ≤ 16) : ∃ p : PlanNo, p.num = n := by
  have found : ∀ m : Fin 17, 1 ≤ m.val → ∃ p ∈ PlanNo.all, p.num = m.val := by decide
  obtain ⟨p, -, hp⟩ := found ⟨n, by omega⟩ h
  exact ⟨p, hp⟩

theorem slotArg_of_isSlot {b : Byte} {k : Slot} (h : IsSlot b k) : slotArg b = some k := by
  unfold IsSlot at h
  simp [slotArg, h]

theorem slotArg_of_noSlot {b : Byte} (h : NoSlot b) : slotArg b = none := slotOfNum_none h

theorem planArg_of_num {b : Byte} {p : PlanNo} (h : b.toNat = p.num) : planArg b = some p := by
  simp [planArg, h]

theorem planArg_none {b : Byte} (h : b.toNat = 0 ∨ 16 < b.toNat) : planArg b = none := by
  cases hp : planArg b with
  | none => rfl
  | some p =>
    have := PlanNo.num_of_ofNum hp
    have := num_plan_range p
    omega

/-! ### Answering a request -/

/-- A request is answered as its handler says, when the handler leaves the state as it was. -/
theorem serve_answers {kind : Nat} {handle : List Byte → State → Reply × State} {s : State} {r : Request}
    {body : List Byte} {y : Reply} (h : s.AtHead kind body r) (hy : handle body s = (y, s)) :
    serve kind handle s = .next { s with host := answered s.host r y.result y.content } := by
  rw [serve_atHead h, hy]
  rfl

/-- A request is answered as its handler says, and leaves the state that the handler leaves. -/
theorem serve_stores {kind : Nat} {handle : List Byte → State → Reply × State} {s t : State} {r : Request}
    {body : List Byte} {y : Reply} (h : s.AtHead kind body r) (hy : handle body s = (y, t)) :
    serve kind handle s = .next { t with host := answered t.host r y.result y.content } := by
  rw [serve_atHead h, hy]
  rfl

/-- A handler refuses with BAD_LENGTH every body of another length than `n`, and changes nothing (R181). -/
def RefusesLength (n : Nat) (handle : List Byte → State → Reply × State) : Prop :=
  ∀ body s, body.length ≠ n → handle body s = (.refuse .badLength, s)

theorem noArguments_refusesLength (handle : State → Reply × State) : RefusesLength 0 (noArguments handle) := by
  intro body s h
  cases body with
  | nil => exact absurd rfl h
  | cons => rfl

theorem refusesLength_one {handle : List Byte → State → Reply × State}
    (short : ∀ s, handle [] s = (.refuse .badLength, s))
    (long : ∀ a b rest s, handle (a :: b :: rest) s = (.refuse .badLength, s)) : RefusesLength 1 handle := by
  intro body s h
  match body, h with
  | [], _ => exact short s
  | [_], h => exact absurd rfl h
  | a :: b :: rest, _ => exact long a b rest s

theorem refusesLength_three {handle : List Byte → State → Reply × State}
    (none : ∀ s, handle [] s = (.refuse .badLength, s)) (one : ∀ a s, handle [a] s = (.refuse .badLength, s))
    (two : ∀ a b s, handle [a, b] s = (.refuse .badLength, s))
    (long : ∀ a b c d rest s, handle (a :: b :: c :: d :: rest) s = (.refuse .badLength, s)) :
    RefusesLength 3 handle := by
  intro body s h
  match body, h with
  | [], _ => exact none s
  | [a], _ => exact one a s
  | [a, b], _ => exact two a b s
  | [_, _, _], h => exact absurd rfl h
  | a :: b :: c :: d :: rest, _ => exact long a b c d rest s

theorem slotRequest_refusesLength (handle : Byte → State → Reply × State) : RefusesLength 1 (slotRequest handle) :=
  refusesLength_one (fun _ => rfl) fun _ _ _ _ => rfl

theorem planRequest_refusesLength (handle : Byte → State → Reply × State) : RefusesLength 1 (planRequest handle) :=
  refusesLength_one (fun _ => rfl) fun _ _ _ _ => rfl

theorem holdDirection_refusesLength : RefusesLength 1 holdDirection :=
  refusesLength_one (fun _ => rfl) fun _ _ _ _ => rfl

theorem readPlan_refusesLength : RefusesLength 2 readPlan := by
  intro body s h
  match body, h with
  | [], _ => rfl
  | [_], _ => rfl
  | [_, _], h => exact absurd rfl h
  | _ :: _ :: _ :: _, _ => rfl

theorem seedQueue_refusesLength : RefusesLength 3 seedQueue :=
  refusesLength_three (fun _ => rfl) (fun _ _ => rfl) (fun _ _ _ => rfl) fun _ _ _ _ _ _ => rfl

theorem injectSkew_refusesLength : RefusesLength 3 injectSkew :=
  refusesLength_three (fun _ => rfl) (fun _ _ => rfl) (fun _ _ _ => rfl) fun _ _ _ _ _ _ => rfl

theorem defineJunction_refusesLength : RefusesLength 10 defineJunction := by
  intro body s h
  have unread : readJunctionDef body = none := by
    unfold readJunctionDef
    split
    · exact absurd rfl h
    · rfl
  simp [defineJunction, unread]

/-- Every request of one length is served by a handler that refuses bodies of another. -/
theorem fixedRequests_served (x : Instr × Nat × Nat) (hx : x ∈ fixedRequests) :
    ∃ handle, RefusesLength x.2.2 handle ∧ ∀ s, exec x.1 s = serve x.2.1 handle s := by
  revert x
  simp only [fixedRequests, List.forall_mem_cons, List.not_mem_nil, false_implies, implies_true, and_true]
  exact ⟨⟨_, noArguments_refusesLength _, fun _ => rfl⟩, ⟨_, noArguments_refusesLength _, fun _ => rfl⟩,
    ⟨_, noArguments_refusesLength _, fun _ => rfl⟩, ⟨_, defineJunction_refusesLength, fun _ => rfl⟩,
    ⟨_, slotRequest_refusesLength _, fun _ => rfl⟩, ⟨_, slotRequest_refusesLength _, fun _ => rfl⟩,
    ⟨_, readPlan_refusesLength, fun _ => rfl⟩, ⟨_, noArguments_refusesLength _, fun _ => rfl⟩,
    ⟨_, planRequest_refusesLength _, fun _ => rfl⟩, ⟨_, noArguments_refusesLength _, fun _ => rfl⟩,
    ⟨_, planRequest_refusesLength _, fun _ => rfl⟩, ⟨_, planRequest_refusesLength _, fun _ => rfl⟩,
    ⟨_, holdDirection_refusesLength, fun _ => rfl⟩, ⟨_, slotRequest_refusesLength _, fun _ => rfl⟩,
    ⟨_, slotRequest_refusesLength _, fun _ => rfl⟩, ⟨_, seedQueue_refusesLength, fun _ => rfl⟩,
    ⟨_, injectSkew_refusesLength, fun _ => rfl⟩, ⟨_, noArguments_refusesLength _, fun _ => rfl⟩⟩

/-- The items of SET NOTICE MASK take two bytes each (R197). -/
theorem even_of_readMaskItems : ∀ {body : List Byte} {items}, readMaskItems body = some items → body.length % 2 = 0
  | [], _, _ => rfl
  | [_], _, h => nomatch h
  | _ :: _ :: rest, _, h => by
    obtain ⟨items, hitems, -⟩ := Option.map_eq_some_iff.1 h
    have := even_of_readMaskItems hitems
    simp only [List.length_cons]
    omega

/-- The items of SET CORRIDOR take three bytes each (R197). -/
theorem triple_of_readSettingItems :
    ∀ {body : List Byte} {items}, readSettingItems body = some items → body.length % 3 = 0
  | [], _, _ => rfl
  | [_], _, h => nomatch h
  | [_, _], _, h => nomatch h
  | _ :: _ :: _ :: rest, _, h => by
    obtain ⟨items, hitems, -⟩ := Option.map_eq_some_iff.1 h
    have := triple_of_readSettingItems hitems
    simp only [List.length_cons]
    omega

end Sys2Proof.Proofs.TimingPlans
end

section
/-! PROOFS. The items of WRITE PLAN and their bytes: reading gives back what was encoded, and whatever is read was
encoded (R24, R197). -/

namespace Sys2Proof.Proofs.TimingPlans

open Sys2Proof.Machine Sys2Proof.Claims

theorem ofCode_fieldCode (f : PlanField) : PlanField.ofCode (fieldCode f) = some f := by cases f <;> rfl

theorem fieldCode_range (f : PlanField) : fieldCode f ≠ 2 ∧ fieldCode f ≠ 3 ∧ fieldCode f < 256 := by
  cases f <;> decide

theorem fieldCode_of_ofCode {n : Nat} {f : PlanField} (h : PlanField.ofCode n = some f) : fieldCode f = n := by
  unfold PlanField.ofCode at h
  split at h <;> cases h <;> rfl

/-! ### From items to bytes and back -/

theorem readPlanItem_value {f : PlanField} {code : Byte} (h : code.toNat = fieldCode f) (hi lo : Byte)
    (rest : List Byte) :
    readPlanItem code (hi :: lo :: rest) = some (.value f (readU16 hi lo), rest) := by
  obtain ⟨notGreen, notImage, -⟩ := fieldCode_range f
  simp [readPlanItem, h, notGreen, notImage, ofCode_fieldCode]

theorem readPlanItem_green (slot hi lo : Byte) (rest : List Byte) :
    readPlanItem 2 (slot :: hi :: lo :: rest) = some (.green slot.toNat (readU16 hi lo), rest) := by
  simp [readPlanItem]

theorem readPlanItem_image (slot count : Byte) {bytes : List Byte} (h : count.toNat = bytes.length)
    (rest : List Byte) :
    readPlanItem 3 (slot :: count :: (bytes ++ rest)) = some (.image slot.toNat bytes, rest) := by
  simp [readPlanItem, h]

/-- An item whose numbers fit its bytes is read back from them, up to the bytes after it. -/
theorem readPlanItem_itemBytes {i : PlanItem} (h : Carried i) :
    ∃ code tail, itemBytes i = code :: tail ∧
      ∀ rest, readPlanItem code (tail ++ rest) = some (i, rest) := by
  cases i with
  | value f v =>
    refine ⟨_, _, rfl, fun rest => ?_⟩
    have code := toNat_u8 (fieldCode_range f).2.2
    simpa [u16, readU16_u16 h] using readPlanItem_value code (u8 (v / 256)) (u8 v) rest
  | green k v =>
    obtain ⟨hk, hv⟩ := h
    refine ⟨_, _, rfl, fun rest => ?_⟩
    simpa [u16, readU16_u16 hv, toNat_u8 hk] using readPlanItem_green (u8 k) (u8 (v / 256)) (u8 v) rest
  | image k bytes =>
    obtain ⟨hk, hbytes⟩ := h
    refine ⟨_, _, rfl, fun rest => ?_⟩
    simpa [toNat_u8 hk] using readPlanItem_image (u8 k) (u8 bytes.length) (toNat_u8 hbytes) rest

/-- Items whose numbers fit their bytes are read back from them. -/
theorem readPlanItems_flatMap : ∀ (fuel : Nat) (items : List PlanItem), (∀ i ∈ items, Carried i) →
    (items.flatMap itemBytes).length ≤ fuel → readPlanItems fuel (items.flatMap itemBytes) = some items
  | fuel, [], _, _ => by cases fuel <;> rfl
  | fuel, i :: items, carried, long => by
    obtain ⟨head, tails⟩ := List.forall_mem_cons.1 carried
    obtain ⟨code, tail, bytes, read⟩ := readPlanItem_itemBytes head
    rw [List.flatMap_cons, bytes, List.cons_append] at long ⊢
    cases fuel with
    | zero => simp at long
    | succ fuel =>
      have shorter : (items.flatMap itemBytes).length ≤ fuel := by
        simp only [List.length_cons, List.length_append] at long
        omega
      simp [readPlanItems, read, readPlanItems_flatMap fuel items tails shorter]

/-! ### From bytes to items -/

/-- Whatever is read as an item stands in the bytes as that item. -/
theorem itemBytes_of_readPlanItem {code : Byte} {rest after : List Byte} {i : PlanItem}
    (h : readPlanItem code rest = some (i, after)) :
    code :: rest = itemBytes i ++ after ∧ ∀ k image, i = .image k image → image.length < 256 := by
  unfold readPlanItem at h
  split at h
  case isTrue green =>
    split at h
    · obtain rfl : code = 2 := BitVec.eq_of_toNat_eq green
      cases h
      simp [itemBytes, u8_toNat, u16_readU16]
    · cases h
  case isFalse =>
    split at h
    case isTrue image =>
      split at h
      · rename_i slot count bytes
        split at h
        · rename_i enough
          obtain rfl : code = 3 := BitVec.eq_of_toNat_eq image
          cases h
          have len : (bytes.take count.toNat).length = count.toNat := by simp [enough]
          refine ⟨by simp [itemBytes, len, u8_toNat], ?_⟩
          rintro k image ⟨⟩
          rw [len]
          exact count.isLt
        · cases h
      · cases h
    case isFalse =>
      split at h
      · rename_i f hi lo after' known
        cases h
        have byte : u8 (fieldCode f) = code := by rw [fieldCode_of_ofCode known, u8_toNat]
        simp [itemBytes, byte, u16_readU16]
      · cases h

/-- Bytes that are read as items are accounted for by them. -/
theorem accounted_of_readPlanItems : ∀ {fuel : Nat} {bytes : List Byte} {items : List PlanItem},
    readPlanItems fuel bytes = some items → Accounted bytes
  | _, [], _, _ => ⟨[], by simp⟩
  | 0, _ :: _, _, h => nomatch h
  | fuel + 1, code :: rest, _, h => by
    obtain ⟨⟨i, after⟩, hi, h⟩ := Option.bind_eq_some_iff.1 h
    obtain ⟨_, hrest, -⟩ := Option.map_eq_some_iff.1 h
    obtain ⟨bytes, short⟩ := itemBytes_of_readPlanItem hi
    obtain ⟨items, shorts, rfl⟩ := accounted_of_readPlanItems hrest
    refine ⟨i :: items, ?_, by simp [bytes]⟩
    intro k image hmem
    rcases List.mem_cons.1 hmem with rfl | hmem
    · exact short k image rfl
    · exact shorts k image hmem

end Sys2Proof.Proofs.TimingPlans
end

section
/-! PROOFS. The kind and the length of a request are checked before anything else (R24, R181, R195, R197). -/

namespace Sys2Proof.Proofs.TimingPlans

open Sys2Proof.Machine Sys2Proof.Claims

theorem knownKind_eq_false {b : Byte} (h : b.toNat = 0 ∨ 0x16 < b.toNat) : knownKind b = false := by
  simp only [knownKind, inRange, Bool.and_eq_false_iff, decide_eq_false_iff_not]
  omega

theorem setNoticeMask_odd {body : List Byte} (h : body.length % 2 ≠ 0) (s : State) :
    setNoticeMask body s = (.refuse .badLength, s) := by
  cases hitems : readMaskItems body with
  | none => simp [setNoticeMask, hitems]
  | some items => exact absurd (even_of_readMaskItems hitems) h

theorem setCorridor_not_triple {body : List Byte} (h : body.length % 3 ≠ 0) (s : State) :
    setCorridor body s = (.refuse .badLength, s) := by
  cases hitems : readSettingItems body with
  | none => simp [setCorridor, hitems]
  | some items => exact absurd (triple_of_readSettingItems hitems) h

theorem writePlan_not_accounted {body : List Byte}
    (h : ∀ p erase items, Accounted items → body ≠ p :: erase :: items) (s : State) :
    writePlan body s = (.refuse .badLength, s) := by
  match body, h with
  | [], _ => rfl
  | [_], _ => rfl
  | p :: erase :: rest, h =>
    cases hitems : readPlanItems rest.length rest with
    | none => simp [writePlan, hitems]
    | some items => exact absurd rfl (h p erase rest (accounted_of_readPlanItems hitems))

theorem readLoopback_eq_none {body : List Byte}
    (h : ∀ n length payload, length.toNat = payload.length → body ≠ n :: length :: payload) :
    readLoopback body = none := by
  match body, h with
  | [], _ => rfl
  | [_], _ => rfl
  | n :: length :: payload, h => exact if_neg fun len => h n length payload len rfl

theorem execUnknownKindRequest_answers {s : State} {r : Request} (idle : s.host.serving = false)
    (head : s.host.queue.head? = some r) (unknown : knownKind r.kind = false) :
    execUnknownKindRequest s = .next { s with host := answered s.host r .unknownKind [r.kind] } := by
  have taken := State.requestToTake_ok.2 ⟨idle, head⟩
  simp [execUnknownKindRequest, taken, unknown]
  rfl

theorem execLoopbackTest_badLength {s : State} {r : Request} (h : s.AtHead 0x16 r.body r)
    (unread : readLoopback r.body = none) :
    execLoopbackTest s = .next { s with host := answered s.host r .badLength [] } := by
  obtain ⟨idle, head, kind, -⟩ := h
  have taken := State.requestToTake_ok.2 ⟨idle, head⟩
  simp [execLoopbackTest, taken, kind, unread]
  rfl

/-- Settles O14: each handler refuses what its reader cannot read, and a reader reads nothing of another length. -/
theorem requestKindAndLengthAreChecked : Obligations.RequestKindAndLengthAreChecked := by
  unfold Obligations.RequestKindAndLengthAreChecked
  intro s r idle head
  have atHead : ∀ {kind}, r.kind.toNat = kind → s.AtHead kind r.body r := fun kind => ⟨idle, head, kind, rfl⟩
  refine ⟨fun unknown => execUnknownKindRequest_answers idle head (knownKind_eq_false unknown), ?_,
    fun kind odd => serve_answers (atHead kind) (setNoticeMask_odd odd s),
    fun kind parts => serve_answers (atHead kind) (setCorridor_not_triple parts s),
    fun kind bytes => serve_answers (atHead kind) (writePlan_not_accounted bytes s),
    fun kind bytes => execLoopbackTest_badLength (atHead kind) (readLoopback_eq_none bytes)⟩
  intro i kind n fixed hkind length
  obtain ⟨handle, refuses, served⟩ := fixedRequests_served _ fixed
  rw [served]
  exact serve_answers (atHead hkind) (refuses _ s length)

end Sys2Proof.Proofs.TimingPlans
end

section
/-! PROOFS. The reading requests report the contents of R198 and change nothing (R33, R34, R183, R185, R187, R188). -/

namespace Sys2Proof.Proofs.TimingPlans

open Sys2Proof.Machine Sys2Proof.Claims

/-! ### Plans -/

theorem defined_iff {s : State} {k : Slot} : s.defined k = true ↔ s.corridor.table.get k ≠ none := by
  simp [State.defined, Option.isSome_iff_ne_none]

theorem mem_definedSlots {s : State} {k : Slot} : k ∈ s.definedSlots ↔ s.corridor.table.get k ≠ none := by
  simp [State.definedSlots, defined_iff]

/-- The model's completeness of a plan is R23's. -/
theorem planComplete_iff {s : State} {p : PlanNo} : s.planComplete p = true ↔ Complete s p := by
  have greens : (s.definedSlots.all fun k => ((s.plans.get p).green.get k).isSome) = true ↔
      ∀ k, s.corridor.table.get k ≠ none → (s.plans.get p).green.get k ≠ none := by
    simp [List.all_eq_true, mem_definedSlots, Option.isSome_iff_ne_none]
  have ref : ((s.plans.get p).ref.any s.defined) = true ↔
      ∃ k, (s.plans.get p).ref = some k ∧ s.corridor.table.get k ≠ none := by
    simp [Option.any_eq_true, defined_iff]
  simp only [State.planComplete, Complete, Bool.and_eq_true, greens, ref, Option.isSome_iff_ne_none, and_assoc]

theorem beq_some_eq_decide {α : Type} [DecidableEq α] (a : Option α) (b : α) :
    (a == some b) = decide (a = some b) := by
  by_cases h : a = some b <;> simp [h]

theorem planSummary_eq (s : State) (p : PlanNo) :
    s.planSummary p = u8 p.num :: summaryBytes s p (s.planComplete p) := by
  simp [State.planSummary, summaryBytes, reportField, fieldBytes, beq_some_eq_decide]

theorem readPlan_summary {pb : Byte} {p : PlanNo} (h : pb.toNat = p.num) (s : State) :
    readPlan [pb, 0] s = (.ok (pb :: summaryBytes s p (s.planComplete p)), s) := by
  simp [readPlan, planArg_of_num h, planSummary_eq, ← h, u8_toNat]

theorem readPlan_image {pb b : Byte} {p : PlanNo} {k : Slot} (h : pb.toNat = p.num) (hk : IsSlot b k) (s : State) :
    readPlan [pb, b] s =
      (.ok ([pb, b, u8 ((s.plans.get p).image.get k).length] ++ (s.plans.get p).image.get k), s) := by
  have slot := slotArg_of_isSlot hk
  unfold IsSlot at hk
  have nonzero : ¬ b = 0#8 := by
    rintro rfl
    have := num_slot_range k
    simp at hk
    omega
  simp [readPlan, planArg_of_num h, nonzero, slot, State.planImage, ← h, ← hk, u8_toNat]

theorem readPlan_no_plan {pb : Byte} (h : pb.toNat = 0 ∨ 16 < pb.toNat) (b : Byte) (s : State) :
    readPlan [pb, b] s = (.badValue 0, s) := by
  simp [readPlan, planArg_none h]

theorem readPlan_no_part {pb b : Byte} (h : 1 ≤ pb.toNat) (h' : pb.toNat ≤ 16) (hb : 12 < b.toNat) (s : State) :
    readPlan [pb, b] s = (.badValue 1, s) := by
  obtain ⟨p, hp⟩ := exists_plan_num h h'
  have nonzero : ¬ b = 0#8 := by
    rintro rfl
    simp at hb
  simp [readPlan, planArg_of_num hp.symm, nonzero, slotArg_of_noSlot (.inr hb)]

/-! ### Junctions -/

theorem statusByte_event (latched : Bool) : statusByte latched false = boolByte latched := by
  cases latched <;> rfl

theorem eventReport_eq (l : EventLatch) : l.report = eventBytes l := by
  simp [EventLatch.report, eventBytes, statusByte_event]

theorem slotReport_eq (l : SlotLatches) : l.report = slotLatchBytes l := by
  simp only [SlotLatches.report, slotLatchBytes, eventReport_eq]
  rfl

/-- The latches that READ JUNCTION reports of a slot, by its definition (R187). -/
def reportedLatches (definition : Option JunctionDef) (l : SlotLatches) : SlotLatches :=
  match definition with
  | none => withoutCounts l
  | some _ => l

theorem latchContent_eq (s : State) (k : Slot) :
    s.latchContent k = slotLatchBytes (reportedLatches (s.corridor.table.get k) (s.notices.slots.get k)) := by
  cases h : s.corridor.table.get k with
  | none => rw [State.latchContent_undefined (by simp [State.defined, h]), slotReport_eq]; rfl
  | some j => rw [State.latchContent_defined (by simp [State.defined, h]), slotReport_eq]; rfl

/-- The transition group of READ JUNCTION; a slot with no record reports seek state Off and everything absent (R187). -/
def transitionBytes : Option TransitionRecord → List Byte
  | none => [0, 0, 0xFF, 0xFF, 0xFF, 0xFF, 0xFF, 0xFF, 0, 0, 0, 0, 0]
  | some x => x.content

theorem transitionContent_eq (x : Option TransitionRecord) : (x.getD .initial).content = transitionBytes x := by
  cases x <;> rfl

theorem inboundContent_eq (b : Option (Both Approach)) :
    (b.getD ⟨.initial, .initial⟩).inbound.content = approachBytes (b.map fun b => b.inbound) := by
  cases b <;> rfl

theorem outboundContent_eq (b : Option (Both Approach)) :
    (b.getD ⟨.initial, .initial⟩).outbound.content = approachBytes (b.map fun b => b.outbound) := by
  cases b <;> rfl

theorem directoryContent_eq (d : Directory) :
    d.content = [u8 d.d0.code, planByte d.d0.plan, u8 d.d1.code, planByte d.d1.plan, u8 d.d2.code, planByte d.d2.plan,
      u8 d.d3.code, planByte d.d3.plan, u8 d.bits] := rfl

/-- The model's report of a slot is the layout of R198. -/
theorem junctionContent_eq (s : State) (k : Slot) : s.junctionContent k = junctionBytes s k := by
  simp only [State.junctionContent, inboundContent_eq, outboundContent_eq, latchContent_eq, transitionContent_eq,
    directoryContent_eq]
  simp only [junctionBytes, definitionContent, transitionBytes, TransitionRecord.content, StepRecord.content,
    List.append_assoc]
  rfl

theorem length_definitionContent (j : Option JunctionDef) : (definitionContent j).length = 10 := by
  cases j <;> rfl

theorem length_stepContent {r : StepRecord} (h : r.window.length ≤ 6) (n : Nat) : (r.content n).length = 20 := by
  simp only [StepRecord.content, List.length_append, List.length_cons, List.length_nil, List.length_map,
    List.length_replicate, length_optU16, length_i16]
  omega

theorem length_transitionContent (x : TransitionRecord) : x.content.length = 13 := by
  simp [TransitionRecord.content, length_optU16, length_i16]

theorem length_latchContent (s : State) (k : Slot) : (s.latchContent k).length = 11 := by
  rw [latchContent_eq]
  rfl

theorem length_junctionBytes {s : State} {k : Slot} (h : (s.monitor.get k).window.length ≤ 6) :
    (junctionBytes s k).length = 83 := by
  simp [← junctionContent_eq, State.junctionContent, length_definitionContent, length_stepContent h,
    length_transitionContent, length_optU16, length_u16, length_latchContent, Approach.content, Directory.content,
    DirSlot.all]

/-! ### Progression -/

/-- READ PROGRESSION's report of a slot after the computed offset; with no transition record the target and the current
offset are absent (R188). -/
def seekBytes : Option TransitionRecord → List Byte
  | none => [0xFF, 0xFF, 0xFF, 0xFF, 0, 0]
  | some x => optU16 x.target ++ optU16 x.model.offset ++ [u8 x.model.code, u8 x.seek.code]

theorem progressionSlot_eq (s : State) (k : Slot) :
    s.progressionSlot k =
      optU16 (s.engine.results.bind fun r => r.offset.get k) ++ seekBytes (s.transition.records.get k) := by
  simp only [State.progressionSlot, List.append_assoc]
  cases s.transition.records.get k with
  | none => rfl
  | some x =>
    rw [seekBytes, List.append_assoc]
    rfl

theorem progressionContent_eq (s : State) : s.progressionContent = progressionBytes s := by
  simp only [State.progressionContent, funext (progressionSlot_eq s)]
  rfl

theorem length_resultsContent (r : Option Results) : (resultsContent r).length = 18 := by cases r <;> rfl

theorem length_progressionSlot (s : State) (k : Slot) : (s.progressionSlot k).length = 8 := by
  simp [State.progressionSlot, length_optU16]

theorem length_progressionBytes (s : State) : (progressionBytes s).length = 114 := by
  simp [← progressionContent_eq, State.progressionContent, length_resultsContent, length_progressionSlot, Slot.all]

/-- Settles O15: each report is its layout of R198, and a handler that only reports leaves the state as it was. -/
theorem readsReportAndChangeNothing : Obligations.ReadsReportAndChangeNothing := by
  unfold Obligations.ReadsReportAndChangeNothing
  intro s r
  refine ⟨fun h => serve_answers (y := .ok identity) h rfl,
    fun h => serve_answers (y := .ok s.corridorContent) h rfl,
    fun b hb h => serve_answers (y := .badValue 0) h ?noSlot,
    fun b k hk h => ⟨serve_answers (y := .ok (junctionBytes s k)) h ?slot, length_junctionBytes⟩,
    fun pb p hp h => ⟨s.planComplete p, planComplete_iff, serve_answers h (readPlan_summary hp s)⟩,
    fun pb b p k hp hk h => serve_answers h (readPlan_image hp hk s),
    fun pb b hp h => serve_answers h (readPlan_no_plan hp b s),
    fun pb b lo hi hb h => serve_answers h (readPlan_no_part lo hi hb s),
    fun idle h => serve_answers (y := .refuse .wrongState) h ?idle,
    fun busy h => ⟨serve_answers (y := .ok (progressionBytes s)) h ?busy, length_progressionBytes s⟩⟩
  case noSlot => simp [slotRequest, readJunction, slotArg_of_noSlot hb]
  case slot => simp [slotRequest, readJunction, slotArg_of_isSlot hk, junctionContent_eq]
  case idle => simp [noArguments, idle]
  case busy => simp [noArguments, busy, progressionContent_eq]

end Sys2Proof.Proofs.TimingPlans
end

section
/-! PROOFS. What each check of WRITE PLAN accepts, in the terms of the manual: the names of the items, the plans that
take no structural write, the ranges of the values, and the relations between the fields (R19, R20, R24 to R27). -/

namespace Sys2Proof.Proofs.TimingPlans

open Sys2Proof.Machine Sys2Proof.Claims

/-! ### The first item that fails a check -/

/-- Items that pass a check are passed over. -/
theorem firstBad_append {α : Type} {ok : List α → α → Bool} {good : List α} (rest : List α) :
    ∀ {n : Nat} {before : List α}, (∀ pre x post, good = pre ++ x :: post → ok (before ++ pre) x = true) →
      firstBad ok n before (good ++ rest) = firstBad ok (n + good.length) (before ++ good) rest := by
  induction good with
  | nil => simp
  | cons x xs ih =>
    intro n before pass
    have first : ok before x = true := by simpa using pass [] x xs rfl
    have others : ∀ pre y post, xs = pre ++ y :: post → ok (before ++ [x] ++ pre) y = true := by
      rintro pre y post rfl
      simpa using pass (x :: pre) y post rfl
    simp only [List.cons_append, firstBad, first, if_true]
    rw [ih others]
    simp [Nat.add_assoc, Nat.add_comm 1]

theorem firstBad_of_forall {α : Type} {p : α → Bool} {xs : List α} (h : ∀ x ∈ xs, p x = true) :
    firstBad (fun _ x => p x) 1 [] xs = none := by
  have skip := firstBad_append (ok := fun _ x => p x) (good := xs) [] (n := 1) (before := [])
    fun pre x post hx => h x (by simp [hx])
  simpa [firstBad] using skip

theorem firstBad_of_first {α : Type} {p : α → Bool} {good : List α} {bad : α} (rest : List α)
    (h : ∀ x ∈ good, p x = true) (hbad : p bad = false) :
    firstBad (fun _ x => p x) 1 [] (good ++ bad :: rest) = some (good.length + 1) := by
  rw [firstBad_append _ fun pre x post hx => h x (by simp [hx])]
  simp [firstBad, hbad, Nat.add_comm]

/-! ### Names (R24) -/

/-- Check 2 of R25: an item names a slot in 1..12 where it names one, and no field named before. -/
def nameOk (before : List PlanItem) (i : PlanItem) : Bool := i.slotOk && !before.any i.sameField

theorem sameField_comm (i j : PlanItem) : i.sameField j = j.sameField i := by
  cases i <;> cases j <;> simp [PlanItem.sameField, Bool.beq_comm]

theorem slotOk_iff {i : PlanItem} : i.slotOk = true ↔ NamesSlot i := by
  cases i <;> simp [PlanItem.slotOk, NamesSlot, inRange]

theorem nameOk_iff {before : List PlanItem} {i : PlanItem} :
    nameOk before i = true ↔ NamesSlot i ∧ ∀ j ∈ before, j.sameField i = false := by
  simp [nameOk, slotOk_iff, sameField_comm i]

theorem nameOk_of_namesFields {items : List PlanItem} (h : NamesFields items) (pre : List PlanItem) (i : PlanItem)
    (post : List PlanItem) (split : items = pre ++ i :: post) : nameOk ([] ++ pre) i = true := by
  subst split
  obtain ⟨distinct, slots⟩ := h
  obtain ⟨-, -, across⟩ := List.pairwise_append.1 distinct
  exact nameOk_iff.2 ⟨slots i (by simp), fun j hj => across j hj i (by simp)⟩

theorem firstBad_names_none {items : List PlanItem} (h : NamesFields items) : firstBad nameOk 1 [] items = none := by
  simpa [firstBad] using firstBad_append [] (n := 1) (before := []) (nameOk_of_namesFields h)

theorem firstBad_names_at {good : List PlanItem} {bad : PlanItem} (rest : List PlanItem) (h : NamesFields good)
    (hbad : ¬ NamesSlot bad ∨ ∃ i ∈ good, i.sameField bad = true) :
    firstBad nameOk 1 [] (good ++ bad :: rest) = some (good.length + 1) := by
  have fails : nameOk good bad = false := by
    rw [← Bool.not_eq_true, nameOk_iff]
    rintro ⟨slot, fresh⟩
    rcases hbad with noSlot | ⟨i, hi, same⟩
    · exact noSlot slot
    · simp [fresh i hi] at same
  rw [firstBad_append _ (nameOk_of_namesFields h)]
  simp [firstBad, fails, Nat.add_comm]

/-! ### Structural writes and plans in use (R20, R25) -/

theorem inUse_iff {s : State} {p : PlanNo} : s.inUse p = true ↔ InUse s p := by
  simp [State.inUse, InUse, or_assoc, and_assoc]

theorem structural_iff {i : PlanItem} : i.structural = true ↔
    (∃ v, i = .value .cycle v) ∨ (∃ k v, i = .green k v) ∨ ∃ k bytes, i = .image k bytes := by
  cases i with
  | value f v => cases f <;> simp [PlanItem.structural]
  | green k v => simp [PlanItem.structural]
  | image k bytes => simp [PlanItem.structural]

theorem structuralWrite_iff {erase : Bool} {items : List PlanItem} :
    structuralWrite erase items = true ↔ Structural erase items := by
  simp [structuralWrite, Structural, structural_iff]

/-! ### Ranges (R19, R26) -/

/-- The slots that the reference junction may be: any, or a defined one while the plan is in use or pending (R26). -/
def refAllowed (s : State) (p : PlanNo) (k : Slot) : Bool :=
  !(s.inUse p || s.directory.pending == some p) || s.defined k

theorem refAllowed_iff {s : State} {p : PlanNo} {k : Slot} : refAllowed s p k = true ↔
    (InUse s p ∨ s.directory.pending = some p → s.corridor.table.get k ≠ none) := by
  rw [refAllowed, Bool.or_eq_true, defined_iff, Bool.not_eq_true', ← Bool.not_eq_true, Bool.or_eq_true, inUse_iff,
    beq_iff_eq]
  by_cases used : InUse s p ∨ s.directory.pending = some p
  · simp only [used, not_true_eq_false, false_or, true_implies]
  · simp only [used, not_false_eq_true, true_or, false_implies]

theorem refNumber_iff {s : State} {p : PlanNo} {v : Nat} :
    (Slot.ofNum v).any (refAllowed s p) = true ↔ ¬ (v < 1 ∨ 12 < v) ∧
      (InUse s p ∨ s.directory.pending = some p → ∀ k : Slot, v = k.num → s.corridor.table.get k ≠ none) := by
  by_cases range : 1 ≤ v ∧ v ≤ 12
  · obtain ⟨k, rfl⟩ := exists_slot_num range.1 range.2
    have inside : ¬ (k.num < 1 ∨ 12 < k.num) := by omega
    simp only [Slot.ofNum_num, Option.any_some, refAllowed_iff, inside, not_false_eq_true, true_and]
    exact forall_congr' fun _ => ⟨fun defined j hj => Slot.num_inj hj ▸ defined, fun defined => defined k rfl⟩
  · have outside : v < 1 ∨ 12 < v := by omega
    simp only [slotOfNum_none (n := v) (by omega), Option.any_none, Bool.false_eq_true, outside, not_true_eq_false,
      false_and]

/-- The model's range of an item is R19's, the record that the write leaves being `result` (R26). -/
theorem inRange_iff {s : State} {p : PlanNo} {result : PlanRecord} {i : PlanItem} (carried : Carried i)
    (slot : NamesSlot i) : i.inRange result.cycle (refAllowed s p) = true ↔ ItemFits s p result i := by
  cases i with
  | value f v =>
    have fits : v < 65536 := carried
    cases f
    case ref =>
      simp [PlanItem.inRange, refNumber_iff, ItemFits, ValueOut, fieldCode, fits]
    all_goals simp [PlanItem.inRange, inRange, ItemFits, ValueOut, fieldCode, fits]
  | green k v =>
    obtain ⟨-, fits⟩ := carried
    obtain ⟨lo, hi⟩ := slot
    simp [PlanItem.inRange, ItemFits, lo, hi, fits]
  | image k bytes =>
    obtain ⟨lo, hi⟩ := slot
    simp [PlanItem.inRange, ItemFits, lo, hi]

theorem carried_of_fits {s : State} {p : PlanNo} {result : PlanRecord} {i : PlanItem} (h : ItemFits s p result i) :
    Carried i := by
  cases i with
  | value f v => exact h.1
  | green k v =>
    obtain ⟨-, hi, fits, -⟩ := h
    exact ⟨by omega, fits⟩
  | image k bytes =>
    obtain ⟨-, hi, short⟩ := h
    exact ⟨by omega, by omega⟩

theorem namesSlot_of_fits {s : State} {p : PlanNo} {result : PlanRecord} {i : PlanItem} (h : ItemFits s p result i) :
    NamesSlot i := by
  cases i with
  | value f v => trivial
  | green k v =>
    obtain ⟨lo, hi, -⟩ := h
    exact ⟨lo, hi⟩
  | image k bytes =>
    obtain ⟨lo, hi, -⟩ := h
    exact ⟨lo, hi⟩

/-! ### The cycle length that the items leave (R26) -/

theorem mem_of_writtenCycle {items : List PlanItem} {c : Nat} (h : writtenCycle items = some c) :
    .value .cycle c ∈ items := by
  obtain ⟨i, hi, written⟩ := List.exists_of_findSome?_eq_some h
  split at written <;> cases written
  exact hi

theorem not_mem_of_writtenCycle {items : List PlanItem} (h : writtenCycle items = none) (v : Nat) :
    .value .cycle v ∉ items := by
  intro hv
  have := List.findSome?_eq_none_iff.1 h _ hv
  cases this

theorem writtenCycle_or {base result : PlanRecord} {items : List PlanItem} (h : StoresCycle base items result) :
    (writtenCycle items).or base.cycle = result.cycle := by
  obtain ⟨written, kept⟩ := h
  cases hw : writtenCycle items with
  | none => exact (kept (not_mem_of_writtenCycle hw)).symm
  | some c => exact (written c (mem_of_writtenCycle hw)).symm

theorem storesCycle_of_stores {base result : PlanRecord} {items : List PlanItem} (h : Stores base items result) :
    StoresCycle base items result := by
  obtain ⟨written, kept, -⟩ := h
  exact ⟨written .cycle, kept .cycle⟩

/-! ### Relations (R27) -/

theorem greenFails_iff {r : PlanRecord} {k : Slot} :
    r.greenFails k = true ↔ ∃ c g, r.cycle = some c ∧ r.green.get k = some g ∧ c < g + 100 := by
  cases hc : r.cycle <;> cases hg : r.green.get k <;> simp [PlanRecord.greenFails, hc, hg]

theorem anyGreenFails_iff {r : PlanRecord} : Slot.all.any r.greenFails = true ↔
    ∃ c k g, r.cycle = some c ∧ r.green.get k = some g ∧ c < g + 100 := by
  simp only [List.any_eq_true, Slot.mem_all, true_and, greenFails_iff]
  exact exists_comm

theorem offsetFails_iff {r : PlanRecord} :
    r.offsetFails = true ↔ ∃ c o, r.cycle = some c ∧ r.oRef = some o ∧ c ≤ o := by
  cases hc : r.cycle <;> cases ho : r.oRef <;> simp [PlanRecord.offsetFails, hc, ho]

/-- A record breaks a relation of R27 exactly when one of the model's two tests says so. -/
theorem fails_iff {r : PlanRecord} : r.fails = true ↔ ¬ RecordFits r := by
  rw [PlanRecord.fails, Bool.or_eq_true, offsetFails_iff, anyGreenFails_iff, RecordFits,
    Classical.not_and_iff_not_or_not, or_comm]
  simp only [Classical.not_forall, Nat.not_le, Nat.not_lt, exists_prop]

theorem inFailing_iff {r : PlanRecord} {i : PlanItem} : i.inFailing r = true ↔ TakesPart r i := by
  cases i with
  | value f v => cases f <;> simp [PlanItem.inFailing, TakesPart, fails_iff, offsetFails_iff]
  | green k v => exact anyGreenFails_iff
  | image k bytes => simp [PlanItem.inFailing, TakesPart]

theorem fails_of_takesPart {r : PlanRecord} {i : PlanItem} (h : TakesPart r i) : r.fails = true := by
  rw [← inFailing_iff] at h
  cases i with
  | value f v =>
    cases f
    case cycle => exact h
    case oRef => simp [PlanRecord.fails, (show r.offsetFails = true from h)]
    all_goals cases h
  | green k v => simp only [PlanRecord.fails, (show Slot.all.any r.greenFails = true from h), Bool.or_true]
  | image k bytes => cases h

theorem crossFieldFault_none {r : PlanRecord} (h : RecordFits r) (items : List PlanItem) :
    crossFieldFault r items = none := if_neg fun fails => fails_iff.1 fails h

theorem crossFieldFault_at {r : PlanRecord} {good : List PlanItem} {bad : PlanItem} (rest : List PlanItem)
    (h : ∀ i ∈ good, ¬ TakesPart r i) (hbad : TakesPart r bad) :
    crossFieldFault r (good ++ bad :: rest) = some (good.length + 1) := by
  have first := firstBad_of_first (p := fun i => !i.inFailing r) rest
    (fun i hi => by simpa [← inFailing_iff] using h i hi) (by simpa using inFailing_iff.2 hbad)
  simp [crossFieldFault, fails_of_takesPart hbad, first]

end Sys2Proof.Proofs.TimingPlans
end

section
/-! PROOFS. The record that the items of a WRITE PLAN leave, and WRITE PLAN as a whole: its checks in their order, its
refusals, and what an accepted write stores (R20, R21, R24 to R28, R30, R125). -/

namespace Sys2Proof.Proofs.TimingPlans

open Sys2Proof.Machine Sys2Proof.Claims

/-! ### One item applied (R28) -/

theorem fieldOf_apply_self {f : PlanField} {v : Nat} (h : f = .ref → 1 ≤ v ∧ v ≤ 12) (r : PlanRecord) :
    fieldOf (r.apply (.value f v)) f = some v := by
  cases f
  case ref =>
    obtain ⟨lo, hi⟩ := h rfl
    obtain ⟨k, rfl⟩ := exists_slot_num lo hi
    simp [PlanRecord.apply, fieldOf]
  all_goals rfl

theorem fieldOf_apply_of_ne {f : PlanField} {v : Nat} {i : PlanItem} (h : i.sameField (.value f v) = false)
    (r : PlanRecord) : fieldOf (r.apply i) f = fieldOf r f := by
  cases i with
  | value g w =>
    have other : g ≠ f := by simpa [PlanItem.sameField] using h
    cases g <;> cases f <;> first | rfl | exact absurd rfl other
  | green j w => cases hj : Slot.ofNum j <;> cases f <;> simp [PlanRecord.apply, hj, fieldOf]
  | image j bytes => cases hj : Slot.ofNum j <;> cases f <;> simp [PlanRecord.apply, hj, fieldOf]

theorem green_apply_self (k : Slot) (v : Nat) (r : PlanRecord) :
    (r.apply (.green k.num v)).green.get k = some v := by
  simp [PlanRecord.apply]

theorem green_apply_of_ne {k : Slot} {v : Nat} {i : PlanItem} (h : i.sameField (.green k.num v) = false)
    (r : PlanRecord) : (r.apply i).green.get k = r.green.get k := by
  cases i with
  | value g w => cases g <;> rfl
  | green j w =>
    cases hj : Slot.ofNum j with
    | none => simp [PlanRecord.apply, hj]
    | some m =>
      have other : k ≠ m := by
        rintro rfl
        simp [PlanItem.sameField, Slot.num_of_ofNum hj] at h
      simp [PlanRecord.apply, hj, PerSlot.get_set_ne _ other]
  | image j bytes => cases hj : Slot.ofNum j <;> simp [PlanRecord.apply, hj]

theorem image_apply_self (k : Slot) (bytes : List Byte) (r : PlanRecord) :
    (r.apply (.image k.num bytes)).image.get k = bytes := by
  simp [PlanRecord.apply]

theorem image_apply_of_ne {k : Slot} {bytes : List Byte} {i : PlanItem}
    (h : i.sameField (.image k.num bytes) = false) (r : PlanRecord) : (r.apply i).image.get k = r.image.get k := by
  cases i with
  | value g w => cases g <;> rfl
  | green j w => cases hj : Slot.ofNum j <;> simp [PlanRecord.apply, hj]
  | image j w =>
    cases hj : Slot.ofNum j with
    | none => simp [PlanRecord.apply, hj]
    | some m =>
      have other : k ≠ m := by
        rintro rfl
        simp [PlanItem.sameField, Slot.num_of_ofNum hj] at h
      simp [PlanRecord.apply, hj, PerSlot.get_set_ne _ other]

/-! ### Every item applied (R28)

`part` is the part of the record that the item `i` writes. -/

section part
variable {α : Type} {part : PlanRecord → α} {i : PlanItem}

/-- Items that name other fields leave the part as it was. -/
theorem applyAll_of_ne (keeps : ∀ r j, PlanItem.sameField j i = false → part (r.apply j) = part r)
    {items : List PlanItem} (h : ∀ j ∈ items, j.sameField i = false) (r : PlanRecord) :
    part (r.applyAll items) = part r := by
  induction items generalizing r with
  | nil => rfl
  | cons j items ih =>
    obtain ⟨head, tail⟩ := List.forall_mem_cons.1 h
    exact (ih tail (r.apply j)).trans (keeps r j head)

/-- Of items that name different fields, the one that writes the part leaves its value there. -/
theorem applyAll_of_mem (keeps : ∀ r j, PlanItem.sameField j i = false → part (r.apply j) = part r) {a : α}
    (writes : ∀ r : PlanRecord, part (r.apply i) = a) {items : List PlanItem}
    (distinct : items.Pairwise fun i j => i.sameField j = false) (h : i ∈ items) (r : PlanRecord) :
    part (r.applyAll items) = a := by
  induction items generalizing r with
  | nil => cases h
  | cons j items ih =>
    obtain ⟨head, tail⟩ := List.pairwise_cons.1 distinct
    rcases List.mem_cons.1 h with rfl | h
    · have rest : ∀ j ∈ items, j.sameField i = false := fun j hj => sameField_comm i j ▸ head j hj
      exact (applyAll_of_ne keeps rest (r.apply i)).trans (writes r)
    · exact ih tail h (r.apply j)

end part

/-- Items that name different fields are all stored. -/
theorem stores_applyAll (base : PlanRecord) {items : List PlanItem}
    (distinct : items.Pairwise fun i j => i.sameField j = false)
    (refs : ∀ v, .value .ref v ∈ items → 1 ≤ v ∧ v ≤ 12) : Stores base items (base.applyAll items) := by
  refine ⟨fun f v h => ?_, fun f h => ?_, fun k v h => ?_, fun k h => ?_, fun k bytes h => ?_, fun k h => ?_⟩
  · exact applyAll_of_mem (part := (fieldOf · f)) (fun r j => (fieldOf_apply_of_ne · r))
      (fieldOf_apply_self fun ref => refs v (ref ▸ h)) distinct h base
  · refine applyAll_of_ne (part := (fieldOf · f)) (i := .value f 0) (fun r j => (fieldOf_apply_of_ne · r)) ?_ base
    rintro (⟨g, v⟩ | _ | _) hj
    · simpa [PlanItem.sameField] using fun same : g = f => h v (same ▸ hj)
    · rfl
    · rfl
  · exact applyAll_of_mem (part := (·.green.get k)) (fun r j => (green_apply_of_ne · r)) (green_apply_self k v)
      distinct h base
  · refine applyAll_of_ne (part := (·.green.get k)) (i := .green k.num 0) (fun r j => (green_apply_of_ne · r)) ?_ base
    rintro (_ | ⟨n, v⟩ | _) hj
    · rfl
    · simpa [PlanItem.sameField] using fun same : n = k.num => h v (same ▸ hj)
    · rfl
  · exact applyAll_of_mem (part := (·.image.get k)) (fun r j => (image_apply_of_ne · r)) (image_apply_self k bytes)
      distinct h base
  · refine applyAll_of_ne (part := (·.image.get k)) (i := .image k.num []) (fun r j => (image_apply_of_ne · r)) ?_
      base
    rintro (_ | _ | ⟨n, bytes⟩) hj
    · rfl
    · rfl
    · simpa [PlanItem.sameField] using fun same : n = k.num => h bytes (same ▸ hj)

theorem fieldOf_ref_inj {r r' : PlanRecord} (h : fieldOf r .ref = fieldOf r' .ref) : r.ref = r'.ref :=
  Option.map_injective (fun _ _ => Slot.num_inj) h

/-- Two records with the same fields, greens and images are equal. -/
theorem planRecord_ext {r r' : PlanRecord} (fields : ∀ f, fieldOf r f = fieldOf r' f)
    (greens : ∀ k, r.green.get k = r'.green.get k) (images : ∀ k, r.image.get k = r'.image.get k) : r = r' := by
  have green := PerSlot.ext_get greens
  have image := PerSlot.ext_get images
  have ref := fieldOf_ref_inj (fields .ref)
  have cycle := fields .cycle
  have sIn := fields .sIn
  have sOut := fields .sOut
  have oRef := fields .oRef
  have loss := fields .loss
  have headway := fields .headway
  have wIn := fields .wIn
  have wOut := fields .wOut
  simp only [fieldOf] at cycle sIn sOut oRef loss headway wIn wOut
  cases r
  cases r'
  simp_all

/-- What a write stores is determined by its base and its items. -/
theorem stores_unique {base r r' : PlanRecord} {items : List PlanItem} (h : Stores base items r)
    (h' : Stores base items r') : r = r' := by
  obtain ⟨value, values, green, greens, image, images⟩ := h
  obtain ⟨value', values', green', greens', image', images'⟩ := h'
  refine planRecord_ext (fun f => ?_) (fun k => ?_) (fun k => ?_)
  · by_cases named : ∃ v, PlanItem.value f v ∈ items
    · obtain ⟨v, hv⟩ := named
      rw [value f v hv, value' f v hv]
    · rw [values f (not_exists.1 named), values' f (not_exists.1 named)]
  · by_cases named : ∃ v, PlanItem.green k.num v ∈ items
    · obtain ⟨v, hv⟩ := named
      rw [green k v hv, green' k v hv]
    · rw [greens k (not_exists.1 named), greens' k (not_exists.1 named)]
  · by_cases named : ∃ bytes, PlanItem.image k.num bytes ∈ items
    · obtain ⟨bytes, hbytes⟩ := named
      rw [image k bytes hbytes, image' k bytes hbytes]
    · rw [images k (not_exists.1 named), images' k (not_exists.1 named)]

/-- A record whose reference junction an item has written carries a slot number there. -/
theorem ref_range_of_fits {s : State} {p : PlanNo} {result : PlanRecord} {v : Nat}
    (h : ItemFits s p result (.value .ref v)) : 1 ≤ v ∧ v ≤ 12 := by
  obtain ⟨-, inside, -⟩ := h
  simp [ValueOut, fieldCode] at inside
  omega

theorem applyAll_eq {s : State} {p : PlanNo} {base result : PlanRecord} {items : List PlanItem}
    (distinct : items.Pairwise fun i j => i.sameField j = false) (stores : Stores base items result)
    (fits : ∀ i ∈ items, ItemFits s p result i) : base.applyAll items = result :=
  stores_unique (stores_applyAll base distinct fun _ hv => ref_range_of_fits (fits _ hv)) stores

/-! ### The checks in their order (R25) -/

/-- Checks 2 to 6 of R25: names, plan in use, plan pending, ranges, relations. -/
theorem writeFault_eq (s : State) (p : PlanNo) (erase : Bool) (items : List PlanItem) :
    s.writeFault p erase items =
      ((firstBad nameOk 1 [] items).map Reply.badValue).or
        (if structuralWrite erase items && s.inUse p then some (.refuse .planActive)
        else if structuralWrite erase items && s.directory.pending == some p then some (.refuse .planPending)
        else
          ((firstBad (fun _ i => i.inRange ((writtenCycle items).or (s.writeBase p erase).cycle) (refAllowed s p)) 1 []
            items).or (crossFieldFault ((s.writeBase p erase).applyAll items) items)).map Reply.badValue) := by
  unfold State.writeFault nameOk refAllowed
  cases writtenCycle items
  all_goals
    cases firstBad (fun before (i : PlanItem) => i.slotOk && !before.any i.sameField) 1 [] items with
    | some n => rfl
    | none =>
      dsimp only [Option.map_none, Option.none_or, Option.some_or]
      congr 2
      split
      · next n outside => rw [outside]; rfl
      · next inside => rw [inside]; rfl

section checks
variable {s : State} {p : PlanNo} {erase : Bool} {items : List PlanItem}

theorem writeFault_of_name {n : Nat} (h : firstBad nameOk 1 [] items = some n) :
    s.writeFault p erase items = some (.badValue n) := by
  simp [writeFault_eq, h]

theorem writeFault_of_inUse (named : NamesFields items) (structural : Structural erase items) (used : InUse s p) :
    s.writeFault p erase items = some (.refuse .planActive) := by
  simp [writeFault_eq, firstBad_names_none named, structuralWrite_iff.2 structural, inUse_iff.2 used]

theorem writeFault_of_pending (named : NamesFields items) (structural : Structural erase items)
    (unused : ¬ InUse s p) (pending : s.directory.pending = some p) :
    s.writeFault p erase items = some (.refuse .planPending) := by
  have idle : s.inUse p = false := by simpa [← inUse_iff] using unused
  simp [writeFault_eq, firstBad_names_none named, structuralWrite_iff.2 structural, idle, pending]

/-- A write whose names are good, to a plan that takes it, is judged by its values alone (R25, checks 5 and 6). -/
theorem writeFault_of_writable {result : PlanRecord} (named : NamesFields items)
    (writable : Structural erase items → Writable s p) (cycle : StoresCycle (s.writeBase p erase) items result) :
    s.writeFault p erase items =
      ((firstBad (fun _ i => i.inRange result.cycle (refAllowed s p)) 1 [] items).or
        (crossFieldFault ((s.writeBase p erase).applyAll items) items)).map Reply.badValue := by
  rw [writeFault_eq, firstBad_names_none named, writtenCycle_or cycle, Option.map_none, Option.none_or]
  by_cases structural : Structural erase items
  · obtain ⟨unused, free⟩ := writable structural
    have idle : s.inUse p = false := by simpa [← inUse_iff] using unused
    simp [idle, free]
  · have tuning : structuralWrite erase items = false := by simpa [← structuralWrite_iff] using structural
    simp [tuning]

theorem writeFault_of_range {result : PlanRecord} {good rest : List PlanItem} {bad : PlanItem}
    (named : NamesFields items) (carried : ∀ i ∈ items, Carried i) (writable : Structural erase items → Writable s p)
    (cycle : StoresCycle (s.writeBase p erase) items result) (split : items = good ++ bad :: rest)
    (fits : ∀ i ∈ good, ItemFits s p result i) (unfit : ¬ ItemFits s p result bad) :
    s.writeFault p erase items = some (.badValue (good.length + 1)) := by
  rw [writeFault_of_writable named writable cycle]
  subst split
  obtain ⟨-, slots⟩ := named
  have outside : bad.inRange result.cycle (refAllowed s p) = false := by
    rw [← Bool.not_eq_true, inRange_iff (carried bad (by simp)) (slots bad (by simp))]
    exact unfit
  rw [firstBad_of_first (p := fun i => i.inRange result.cycle (refAllowed s p)) rest
    (fun i hi => (inRange_iff (carried i (by simp [hi])) (slots i (by simp [hi]))).2 (fits i hi)) outside]
  rfl

/-- Where every value is in its range, the relations of R27 alone decide on the record that the write leaves. -/
theorem writeFault_of_fits {result : PlanRecord} (named : NamesFields items)
    (writable : Structural erase items → Writable s p) (stores : Stores (s.writeBase p erase) items result)
    (fits : ∀ i ∈ items, ItemFits s p result i) :
    s.writeFault p erase items = (crossFieldFault result items).map Reply.badValue := by
  rw [writeFault_of_writable named writable (storesCycle_of_stores stores), applyAll_eq named.1 stores fits,
    firstBad_of_forall (p := fun i => i.inRange result.cycle (refAllowed s p)) fun i hi =>
      (inRange_iff (carried_of_fits (fits i hi)) (namesSlot_of_fits (fits i hi))).2 (fits i hi),
    Option.none_or]

theorem writeFault_of_relation {result : PlanRecord} {good rest : List PlanItem} {bad : PlanItem}
    (named : NamesFields items) (writable : Structural erase items → Writable s p)
    (stores : Stores (s.writeBase p erase) items result) (split : items = good ++ bad :: rest)
    (fits : ∀ i ∈ items, ItemFits s p result i) (apart : ∀ i ∈ good, ¬ TakesPart result i)
    (takesPart : TakesPart result bad) : s.writeFault p erase items = some (.badValue (good.length + 1)) := by
  rw [writeFault_of_fits named writable stores fits, split, crossFieldFault_at rest apart takesPart]
  rfl

end checks

/-! ### WRITE PLAN as a whole -/

section request
variable {s : State} {r : Request} {pb : Byte} {p : PlanNo} {erase : Bool} {items : List PlanItem}

theorem readPlanItems_carried (carried : ∀ i ∈ items, Carried i) :
    readPlanItems (items.flatMap itemBytes).length (items.flatMap itemBytes) = some items :=
  readPlanItems_flatMap _ items carried (Nat.le_refl _)

theorem leadingFault_none (hp : pb.toNat = p.num) (erase : Bool) (n : Nat) :
    leadingFault pb (boolByte erase) n = none := by
  simp [leadingFault, planArg_of_num hp, Nat.not_lt.2 (toNat_boolByte_le erase)]

theorem writePlan_badPlan {eb : Byte} (carried : ∀ i ∈ items, Carried i) (hp : pb.toNat = 0 ∨ 16 < pb.toNat) :
    writePlan (pb :: eb :: items.flatMap itemBytes) s = (.badValue 0, s) := by
  simp only [writePlan, readPlanItems_carried carried, planArg_none hp, leadingFault]
  rfl

theorem writePlan_badErase {eb : Byte} (carried : ∀ i ∈ items, Carried i) (hp : pb.toNat = p.num)
    (heb : 1 < eb.toNat) :
    writePlan (pb :: eb :: items.flatMap itemBytes) s = (.badValue (items.length + 1), s) := by
  simp only [writePlan, readPlanItems_carried carried, planArg_of_num hp, leadingFault, heb]
  rfl

theorem writePlan_refuses {y : Reply} (carried : ∀ i ∈ items, Carried i) (hp : pb.toNat = p.num)
    (fault : s.writeFault p erase items = some y) :
    writePlan (pb :: boolByte erase :: items.flatMap itemBytes) s = (y, s) := by
  simp only [writePlan, readPlanItems_carried carried, planArg_of_num hp, leadingFault_none hp, boolByte_eq_one, fault]

theorem writePlan_stores (carried : ∀ i ∈ items, Carried i) (hp : pb.toNat = p.num)
    (passes : s.writeFault p erase items = none) :
    writePlan (pb :: boolByte erase :: items.flatMap itemBytes) s =
      (.ok [pb, boolByte ((s.storePlan p erase items).planComplete p)], s.storePlan p erase items) := by
  simp only [writePlan, readPlanItems_carried carried, planArg_of_num hp, leadingFault_none hp, boolByte_eq_one, passes]

theorem execWritePlan_refuses {y : Reply} (carried : ∀ i ∈ items, Carried i) (hp : pb.toNat = p.num)
    (h : s.AtHead 0x08 (pb :: boolByte erase :: items.flatMap itemBytes) r)
    (fault : s.writeFault p erase items = some y) :
    exec .writePlan s = .next { s with host := answered s.host r y.result y.content } :=
  serve_answers h (writePlan_refuses carried hp fault)

end request

/-! ### What an accepted write stores (R21, R28, R30, R125) -/

theorem writtenRecord_eq {s : State} {p : PlanNo} {erase : Bool} {items : List PlanItem} {base result : PlanRecord}
    (hbase : s.writeBase p erase = base) (happlied : base.applyAll items = result) :
    s.writtenRecord p erase items =
      if base = PlanRecord.blank ∧ result ≠ PlanRecord.blank then firstWritten result else result := by
  simp [State.writtenRecord, PlanRecord.isBlank, hbase, happlied]
  rfl

theorem bits_mapContent (d : Directory) (f : DirSlot → SlotContent → SlotContent) :
    (d.mapContent f).bits = d.bits := rfl

/-- Structure-changed marks every directory slot as the table of R125 says. -/
theorem structureChanged_marks {s t : State} {p : PlanNo} (h : t.directory = s.directory.structureChanged p) :
    StructureChanged s t p := by
  intro k
  rw [h]
  refine ⟨by simp [DirectoryUnit.structureChanged, bits_mapContent], fun x => ?_⟩
  cases hx : (s.directory.dirs.get k).get x with
  | empty => simp [DirectoryUnit.structureChanged, hx, SlotContent.structureChanged]
  | valid q =>
    by_cases same : q = p <;> simp [DirectoryUnit.structureChanged, hx, SlotContent.structureChanged, same]
  | loading q mark prior =>
    by_cases same : q = p <;> simp [DirectoryUnit.structureChanged, hx, SlotContent.structureChanged, same]
  | stale q => simp [DirectoryUnit.structureChanged, hx, SlotContent.structureChanged]

theorem storePlan_structural {s : State} {p : PlanNo} {erase : Bool} {items : List PlanItem}
    (h : Structural erase items) :
    s.storePlan p erase items = { s with
      plans := s.plans.set p (s.writtenRecord p erase items), directory := s.directory.structureChanged p } :=
  if_pos (structuralWrite_iff.2 h)

theorem storePlan_tuning {s : State} {p : PlanNo} {erase : Bool} {items : List PlanItem}
    (h : ¬ Structural erase items) :
    s.storePlan p erase items = { s with plans := s.plans.set p (s.writtenRecord p erase items) } :=
  if_neg fun structural => h (structuralWrite_iff.1 structural)

/-- Settles O25: a write that passes every check stores the one record that its base and items determine. -/
theorem acceptedWriteStoresItsItems : Obligations.AcceptedWriteStoresItsItems := by
  unfold Obligations.AcceptedWriteStoresItsItems
  intro s r pb p erase items base result head hp distinct hbase stores fits relations writable
  have carried : ∀ i ∈ items, Carried i := fun i hi => carried_of_fits (fits i hi)
  have named : NamesFields items := ⟨distinct, fun i hi => namesSlot_of_fits (fits i hi)⟩
  have hwrite : s.writeBase p erase = base := hbase.symm
  have passes : s.writeFault p erase items = none := by
    rw [writeFault_of_fits named writable (hwrite ▸ stores) fits, crossFieldFault_none relations, Option.map_none]
  have record := writtenRecord_eq hwrite (applyAll_eq distinct stores fits)
  have answers := serve_stores head (writePlan_stores carried hp passes)
  by_cases structural : Structural erase items
  · rw [storePlan_structural structural, record] at answers
    exact ⟨_, _, answers, planComplete_iff, rfl, fun _ => structureChanged_marks rfl,
      fun tuning => absurd structural tuning⟩
  · rw [storePlan_tuning structural, record] at answers
    exact ⟨_, _, answers, planComplete_iff, rfl, fun changed => absurd changed structural, fun _ => rfl⟩

end Sys2Proof.Proofs.TimingPlans
end

section
/-! PROOFS. WRITE PLAN's refusals for every list of items, and its writes of one field (R19 to R21, R24 to R28, R30). -/

namespace Sys2Proof.Proofs.TimingPlans

open Sys2Proof.Machine Sys2Proof.Claims

/-! ### Writes of one field -/

theorem itemBytes_value {f : PlanField} {code : Byte} (h : code.toNat = fieldCode f) (hi lo : Byte) :
    itemBytes (.value f (readU16 hi lo)) = [code, hi, lo] := by
  rw [itemBytes, ← h, u8_toNat, u16_readU16]

theorem itemBytes_cycle (hi lo : Byte) : itemBytes (.value .cycle (readU16 hi lo)) = [1, hi, lo] :=
  itemBytes_value rfl hi lo

theorem itemBytes_green {k : Slot} {kb : Byte} (h : IsSlot kb k) (hi lo : Byte) :
    itemBytes (.green k.num (readU16 hi lo)) = [2, kb, hi, lo] := by
  unfold IsSlot at h
  rw [itemBytes, ← h, u8_toNat, u16_readU16]

theorem structural_value_iff {f : PlanField} {v : Nat} : Structural false [.value f v] ↔ f = .cycle := by
  simp [Structural]

theorem namesFields_singleton {i : PlanItem} (h : NamesSlot i) : NamesFields [i] := by
  simpa [NamesFields] using h

/-- A write of one value stores it, where the value is a slot number if it names the reference junction. -/
theorem stores_value (base : PlanRecord) {f : PlanField} {v : Nat} (h : f = .ref → 1 ≤ v ∧ v ≤ 12) :
    Stores base [.value f v] (base.apply (.value f v)) := by
  refine stores_applyAll base (List.pairwise_singleton _ _) fun w hw => ?_
  cases List.mem_singleton.1 hw
  exact h rfl

theorem storesCycle_value (base : PlanRecord) (f : PlanField) (v : Nat) :
    StoresCycle base [.value f v] (base.apply (.value f v)) := by
  cases f <;> simp [StoresCycle, PlanRecord.apply]

theorem storesCycle_green (base : PlanRecord) (k v : Nat) : StoresCycle base [.green k v] base := by
  simp [StoresCycle]

theorem apply_value_ne_blank {base : PlanRecord} {f : PlanField} {v : Nat} (h : f = .ref → 1 ≤ v ∧ v ≤ 12) :
    base.apply (.value f v) ≠ PlanRecord.blank := by
  intro blank
  have stored := fieldOf_apply_self h base
  rw [blank] at stored
  cases f <;> cases stored

/-- A tuning write keeps the relations of R27, where an O_ref that it writes lies below the stored C. -/
theorem recordFits_apply_value {base : PlanRecord} {f : PlanField} {v : Nat} (h : RecordFits base) (hf : f ≠ .cycle)
    (below : f = .oRef → v < base.cycle.getD 2400) : RecordFits (base.apply (.value f v)) := by
  obtain ⟨greens, offset⟩ := h
  cases f
  case cycle => exact absurd rfl hf
  case oRef =>
    refine ⟨greens, fun c o hc ho => ?_⟩
    have hcycle : base.cycle = some c := hc
    cases ho
    simpa [hcycle] using below rfl
  all_goals exact ⟨greens, offset⟩

/-- An accepted write of one tuning field stores it, and changes nothing else but the reply. -/
theorem tuningWrite_stores {s : State} {r : Request} {pb code hi lo : Byte} {p : PlanNo} {f : PlanField}
    (head : s.AtHead 0x08 [pb, 0, code, hi, lo] r) (hp : pb.toNat = p.num) (hcode : code.toNat = fieldCode f)
    (tuning : f ≠ .cycle) {result : PlanRecord} (hresult : result = (s.plans.get p).apply (.value f (readU16 hi lo)))
    (fits : ItemFits s p result (.value f (readU16 hi lo))) (relations : RecordFits result) :
    ∃ t complete, exec .writePlan s = .next t ∧ (complete = true ↔ Complete t p) ∧
      t = { s with
        plans := s.plans.set p (if s.plans.get p = PlanRecord.blank then firstWritten result else result)
        host := answered s.host r .ok [pb, boolByte complete] } := by
  subst hresult
  have range : f = .ref → 1 ≤ readU16 hi lo ∧ readU16 hi lo ≤ 12 := by
    rintro rfl
    exact ref_range_of_fits fits
  have steady : ¬ Structural false [.value f (readU16 hi lo)] := fun h => tuning (structural_value_iff.1 h)
  obtain ⟨t, complete, runs, completes, ht, -, dirs⟩ :=
    acceptedWriteStoresItsItems s r pb p false [.value f (readU16 hi lo)] _ _
      (by simpa [itemBytes_value hcode, boolByte] using head) hp (List.pairwise_singleton _ _) rfl
      (stores_value _ range) (by simpa using fits) relations fun h => absurd h steady
  refine ⟨t, complete, runs, completes, ?_⟩
  rw [dirs steady] at ht
  simpa [apply_value_ne_blank range] using ht

theorem value_fits {s : State} {p : PlanNo} {result : PlanRecord} {f : PlanField} {hi lo : Byte} (hf : f ≠ .ref)
    (inside : ¬ ValueOut result (fieldCode f) (readU16 hi lo)) :
    ItemFits s p result (.value f (readU16 hi lo)) :=
  ⟨readU16_lt hi lo, inside, fun ref => absurd ref hf⟩

/-- Settles O22: each tuning field's value is one item that fits, and no tuning write breaks a relation of R27. -/
theorem tuningWriteStoresTheField : Obligations.TuningWriteStoresTheField := by
  unfold Obligations.TuningWriteStoresTheField
  intro s r pb code hi lo p v head hp hv greens offset result field
  subst hv
  have relations : RecordFits (s.plans.get p) := ⟨greens, offset⟩
  rcases field with ⟨rfl, low, high, rfl⟩ | ⟨rfl, low, high, rfl⟩ | ⟨rfl, k, hk, defined, rfl⟩ | ⟨rfl, below, rfl⟩ |
    ⟨rfl, high, rfl⟩ | ⟨rfl, low, high, rfl⟩ | ⟨rfl, low, high, rfl⟩ | ⟨rfl, high, rfl⟩
  · exact tuningWrite_stores (f := .sIn) head hp rfl (by decide) rfl
      (value_fits (by decide) (by simp [ValueOut, fieldCode]; omega)) relations
  · exact tuningWrite_stores (f := .sOut) head hp rfl (by decide) rfl
      (value_fits (by decide) (by simp [ValueOut, fieldCode]; omega)) relations
  · have range := num_slot_range k
    refine tuningWrite_stores (f := .ref) head hp rfl (by decide) (by simp [PlanRecord.apply, hk])
      ⟨readU16_lt hi lo, by simp [ValueOut, fieldCode]; omega, fun _ used j hj => ?_⟩ relations
    rw [Slot.num_inj (hj.symm.trans hk)]
    exact defined used
  · exact tuningWrite_stores (f := .oRef) head hp rfl (by decide) rfl
      (value_fits (by decide) (by simpa [ValueOut, fieldCode] using below))
      (recordFits_apply_value (f := .oRef) relations (by decide) fun _ => below)
  · exact tuningWrite_stores (f := .loss) head hp rfl (by decide) rfl
      (value_fits (by decide) (by simp [ValueOut, fieldCode]; omega)) relations
  · exact tuningWrite_stores (f := .headway) head hp rfl (by decide) rfl
      (value_fits (by decide) (by simp [ValueOut, fieldCode]; omega)) relations
  · exact tuningWrite_stores (f := .wIn) head hp rfl (by decide) rfl
      (value_fits (by decide) (by simp [ValueOut, fieldCode]; omega)) relations
  · exact tuningWrite_stores (f := .wOut) head hp rfl (by decide) rfl
      (value_fits (by decide) (by simp [ValueOut, fieldCode]; omega)) relations

theorem cycle_fits {s : State} {p : PlanNo} {result : PlanRecord} {c : Nat} (lo : 400 ≤ c) (hi : c ≤ 2400) :
    ItemFits s p result (.value .cycle c) :=
  ⟨by omega, by simp [ValueOut, fieldCode]; omega, by simp⟩

/-- Settles O24: a write of C is an accepted structural write of one item. -/
theorem cycleWriteMarksEveryCopy : Obligations.CycleWriteMarksEveryCopy := by
  unfold Obligations.CycleWriteMarksEveryCopy
  intro s r pb hi lo p c head hp hc lo' hi' unused free nonblank greens offset
  subst hc
  have structural : Structural false [.value .cycle (readU16 hi lo)] := structural_value_iff.2 rfl
  have relations : RecordFits ((s.plans.get p).apply (.value .cycle (readU16 hi lo))) := by
    refine ⟨fun c k g hc hg => ?_, fun c o hc ho => ?_⟩ <;> cases hc
    · exact greens k g hg
    · exact offset o ho
  obtain ⟨t, complete, runs, completes, ht, marks, -⟩ :=
    acceptedWriteStoresItsItems s r pb p false [.value .cycle (readU16 hi lo)] _ _
      (by simpa [itemBytes_cycle, boolByte] using head) hp (List.pairwise_singleton _ _) rfl
      (stores_value _ (by simp)) (by simpa using cycle_fits lo' hi') relations fun _ => ⟨unused, free⟩
  have host : t.host = answered s.host r .ok [pb, boolByte complete] := by rw [ht]
  refine ⟨t, runs, ?_, ⟨complete, completes, host⟩, marks structural⟩
  rw [host]
  simpa [nonblank, PlanRecord.apply] using ht

/-! ### Refusals -/

theorem valueOut_field {stored : PlanRecord} {n v : Nat} (h : ValueOut stored n v) : ∃ f, n = fieldCode f := by
  rcases h with ⟨rfl, -⟩ | ⟨rfl | rfl, -⟩ | ⟨rfl, -⟩ | ⟨rfl, -⟩ | ⟨rfl, -⟩ | ⟨rfl, -⟩ | ⟨rfl, -⟩ | ⟨rfl, -⟩
  · exact ⟨.cycle, rfl⟩
  · exact ⟨.sIn, rfl⟩
  · exact ⟨.sOut, rfl⟩
  · exact ⟨.ref, rfl⟩
  · exact ⟨.oRef, rfl⟩
  · exact ⟨.loss, rfl⟩
  · exact ⟨.headway, rfl⟩
  · exact ⟨.wIn, rfl⟩
  · exact ⟨.wOut, rfl⟩

/-- A value that is out of its range for the stored record is out of it for the record that its write would leave. -/
theorem valueOut_apply {base : PlanRecord} {f : PlanField} {v : Nat} (h : ValueOut base (fieldCode f) v) :
    ValueOut (base.apply (.value f v)) (fieldCode f) v := by
  cases f
  case cycle => simpa [ValueOut, fieldCode] using h
  all_goals exact h

section single
variable {s : State} {r : Request} {pb : Byte} {p : PlanNo}

/-- A write of one item without the erase flag, whose value is out of its range. -/
theorem singleWrite_outOfRange {i : PlanItem} {result : PlanRecord} (hp : pb.toNat = p.num)
    (head : s.AtHead 0x08 (pb :: 0 :: itemBytes i) r) (carried : Carried i) (slot : NamesSlot i)
    (writable : Structural false [i] → Writable s p) (cycle : StoresCycle (s.plans.get p) [i] result)
    (unfit : ¬ ItemFits s p result i) :
    exec .writePlan s = .next { s with host := answered s.host r .badValue [1] } :=
  execWritePlan_refuses (erase := false) (items := [i]) (by simpa using carried) hp (by simpa [boolByte] using head)
    (writeFault_of_range (good := []) (namesFields_singleton slot) (by simpa using carried) writable cycle rfl
      (by simp) unfit)

theorem eraseWrite_planActive (hp : pb.toNat = p.num) (used : InUse s p) (head : s.AtHead 0x08 [pb, 1] r) :
    exec .writePlan s = .next { s with host := answered s.host r .planActive [] } :=
  execWritePlan_refuses (erase := true) (items := []) (by simp) hp head
    (writeFault_of_inUse (by simp [NamesFields]) (.inl rfl) used)

theorem eraseWrite_planPending (hp : pb.toNat = p.num) (unused : ¬ InUse s p) (pending : s.directory.pending = some p)
    (head : s.AtHead 0x08 [pb, 1] r) :
    exec .writePlan s = .next { s with host := answered s.host r .planPending [] } :=
  execWritePlan_refuses (erase := true) (items := []) (by simp) hp head
    (writeFault_of_pending (by simp [NamesFields]) (.inl rfl) unused pending)

theorem valueWrite_outOfRange {code hi lo : Byte} (hp : pb.toNat = p.num)
    (head : s.AtHead 0x08 [pb, 0, code, hi, lo] r) (writable : code = 1 → Writable s p)
    (out : ValueOut (s.plans.get p) code.toNat (readU16 hi lo)) :
    exec .writePlan s = .next { s with host := answered s.host r .badValue [1] } := by
  obtain ⟨f, hf⟩ := valueOut_field out
  rw [hf] at out
  refine singleWrite_outOfRange (i := .value f (readU16 hi lo)) hp (by rwa [itemBytes_value hf]) (readU16_lt hi lo)
    trivial (fun structural => writable ?_) (storesCycle_value _ f _) fun ⟨_, inside, _⟩ => inside (valueOut_apply out)
  rw [structural_value_iff.1 structural] at hf
  exact BitVec.eq_of_toNat_eq hf

theorem refWrite_undefined {hi lo : Byte} {k : Slot} (hp : pb.toNat = p.num)
    (head : s.AtHead 0x08 [pb, 0, 6, hi, lo] r) (hk : readU16 hi lo = k.num)
    (used : InUse s p ∨ s.directory.pending = some p) (undefined : s.corridor.table.get k = none) :
    exec .writePlan s = .next { s with host := answered s.host r .badValue [1] } := by
  refine singleWrite_outOfRange (i := .value .ref (readU16 hi lo)) hp
    (by rwa [itemBytes_value (code := 6) rfl]) (readU16_lt hi lo) trivial
    (fun structural => absurd (structural_value_iff.1 structural) (by decide)) (storesCycle_value _ .ref _) ?_
  rintro ⟨-, -, defined⟩
  exact defined rfl used k hk undefined

theorem greenWrite_outOfRange {kb hi lo : Byte} {k : Slot} (hp : pb.toNat = p.num)
    (head : s.AtHead 0x08 [pb, 0, 2, kb, hi, lo] r) (hk : IsSlot kb k) (writable : Writable s p)
    (out : readU16 hi lo < 50 ∨ (s.plans.get p).cycle.getD 2400 < readU16 hi lo + 100) :
    exec .writePlan s = .next { s with host := answered s.host r .badValue [1] } := by
  have slot := num_slot_range k
  refine singleWrite_outOfRange (i := .green k.num (readU16 hi lo)) hp (by rwa [itemBytes_green hk])
    ⟨by omega, readU16_lt hi lo⟩ slot (fun _ => writable) (storesCycle_green _ _ _) ?_
  rintro ⟨-, -, -, low, high⟩
  omega

/-- A C in its range that a stored green or the stored O_ref does not allow. -/
theorem cycleWrite_breaksRelation {hi lo : Byte} (hp : pb.toNat = p.num) (head : s.AtHead 0x08 [pb, 0, 1, hi, lo] r)
    (writable : Writable s p) (low : 400 ≤ readU16 hi lo) (high : readU16 hi lo ≤ 2400)
    (breaks : (∃ k g, (s.plans.get p).green.get k = some g ∧ readU16 hi lo < g + 100) ∨
      ∃ o, (s.plans.get p).oRef = some o ∧ readU16 hi lo ≤ o) :
    exec .writePlan s = .next { s with host := answered s.host r .badValue [1] } := by
  have takesPart : TakesPart ((s.plans.get p).apply (.value .cycle (readU16 hi lo)))
      (.value .cycle (readU16 hi lo)) := by
    refine .inl ⟨rfl, fun ⟨greens, offset⟩ => ?_⟩
    rcases breaks with ⟨k, g, hg, short⟩ | ⟨o, ho, short⟩
    · exact absurd (greens _ k g rfl hg) (by omega)
    · exact absurd (offset _ o rfl ho) (by omega)
  exact execWritePlan_refuses (erase := false) (items := [.value .cycle (readU16 hi lo)])
    (List.forall_mem_singleton.2 (readU16_lt hi lo)) hp
    (by simpa [itemBytes_cycle, boolByte] using head)
    (writeFault_of_relation (good := []) (namesFields_singleton (i := .value .cycle _) trivial) (fun _ => writable)
      (stores_value _ (by simp)) rfl (by simpa using cycle_fits low high) (by simp) takesPart)

/-- A green in its range before a C in its range that another slot's stored green does not allow. -/
theorem greenThenCycleWrite_breaksRelation {kb gh gl ch cl : Byte} {k : Slot} (hp : pb.toNat = p.num)
    (head : s.AtHead 0x08 [pb, 0, 2, kb, gh, gl, 1, ch, cl] r) (hk : IsSlot kb k) (writable : Writable s p)
    (low : 400 ≤ readU16 ch cl) (high : readU16 ch cl ≤ 2400) (long : 50 ≤ readU16 gh gl)
    (room : readU16 gh gl + 100 ≤ readU16 ch cl)
    (breaks : ∃ i g, i ≠ k ∧ (s.plans.get p).green.get i = some g ∧ readU16 ch cl < g + 100) :
    exec .writePlan s = .next { s with host := answered s.host r .badValue [1] } := by
  have slot := num_slot_range k
  have named : NamesFields [.green k.num (readU16 gh gl), .value .cycle (readU16 ch cl)] := by
    simpa [NamesFields, NamesSlot, PlanItem.sameField] using slot
  have stores := stores_applyAll (s.plans.get p) named.1 (by simp)
  have takesPart : TakesPart
      ((s.plans.get p).applyAll [.green k.num (readU16 gh gl), .value .cycle (readU16 ch cl)])
      (.green k.num (readU16 gh gl)) := by
    obtain ⟨i, g, other, hg, short⟩ := breaks
    refine ⟨readU16 ch cl, i, g, rfl, ?_, short⟩
    obtain ⟨-, -, -, greens, -⟩ := stores
    rw [greens i fun v => by simpa using fun same => absurd (Slot.num_inj same) other, hg]
  have green : ItemFits s p
      ((s.plans.get p).applyAll [.green k.num (readU16 gh gl), .value .cycle (readU16 ch cl)])
      (.green k.num (readU16 gh gl)) := ⟨slot.1, slot.2, readU16_lt gh gl, long, room⟩
  exact execWritePlan_refuses (erase := false)
    (items := [.green k.num (readU16 gh gl), .value .cycle (readU16 ch cl)])
    (List.forall_mem_cons.2 ⟨carried_of_fits green, List.forall_mem_singleton.2 (readU16_lt ch cl)⟩) hp
    (by simpa [itemBytes_green hk, itemBytes_cycle, boolByte] using head)
    (writeFault_of_relation (good := []) named (fun _ => writable) stores rfl
      (List.forall_mem_cons.2 ⟨green, List.forall_mem_singleton.2 (cycle_fits low high)⟩) (by simp) takesPart)

end single

/-- Settles O23: the checks in their order for every list of items, and then for single items. -/
theorem writeChecksItsValues : Obligations.WriteChecksItsValues := by
  unfold Obligations.WriteChecksItsValues
  refine ⟨fun s r pb eb items carried head => ⟨fun hp => serve_answers head (writePlan_badPlan carried hp),
    fun p hp => ⟨fun heb => serve_answers head (writePlan_badErase carried hp heb), ?lists⟩⟩,
    fun s r pb p hp => ⟨eraseWrite_planActive hp, eraseWrite_planPending hp,
      fun code hi lo head writable out => valueWrite_outOfRange hp head writable out,
      fun hi lo k head hk used undefined => refWrite_undefined hp head hk used undefined,
      fun kb hi lo k head hk writable out => greenWrite_outOfRange hp head hk writable out,
      fun hi lo head writable low high breaks => cycleWrite_breaksRelation hp head writable low high breaks,
      fun kb gh gl ch cl k head hk writable low high long room breaks =>
        greenThenCycleWrite_breaksRelation hp head hk writable low high long room breaks⟩⟩
  case lists =>
    rintro erase rfl
    have refuses : ∀ {y : Reply}, s.writeFault p erase items = some y →
        exec .writePlan s = .next { s with host := answered s.host r y.result y.content } :=
      execWritePlan_refuses carried hp head
    refine ⟨?names, fun named structural used => refuses (writeFault_of_inUse named structural used),
      fun named structural unused pending => refuses (writeFault_of_pending named structural unused pending),
      ?values⟩
    case names =>
      rintro good bad rest rfl named hbad
      exact refuses (writeFault_of_name (firstBad_names_at rest named hbad))
    case values =>
      rintro base result good bad rest rfl named writable split
      exact ⟨fun cycle fits unfit => refuses (writeFault_of_range named carried writable cycle split fits unfit),
        fun stores fits apart takesPart =>
          refuses (writeFault_of_relation named writable stores split fits apart takesPart)⟩

end Sys2Proof.Proofs.TimingPlans
end

section
/-! PROOFS. What the latches of one slot take from reports about that slot, and what an effect of the Step Monitor on
one slot does to the part (10.5, R91, R111, R191, R192). -/

namespace Sys2Proof.Proofs.OffsetTransitions

open Sys2Proof.Machine Sys2Proof.Claims

/-! ### Reports about one slot -/

/-- A report about slot `k`: one of its events, or the value of one of its conditions (10.5). -/
def IsAbout (k : Slot) (g : Signal) : Prop := (∃ d, g = .slotEvent k d) ∨ ∃ c on d, g = .condition c k on d

/-- The latches of a slot once they have taken a report about it (10.5). -/
def latchesAfter (l : SlotLatches) : Signal → SlotLatches
  | .slotEvent _ d => l.rise d
  | .condition c _ on d => l.setCondition c ((l.condition c).send on d)
  | .event _ | .blocked _ | .summary _ => l

/-- The Notice Unit has taken the reports `gs` about slot `k`: no latch of another slot, no mask and no corridor latch
but NOTICE_OVERFLOW has changed (R192). -/
structure TakesReports (n n' : NoticeUnit) (k : Slot) (gs : List Signal) : Prop where
  slots : n'.slots = n.slots.set k (gs.foldl latchesAfter (n.slots.get k))
  masks : n'.masks = n.masks
  corridor : n'.corridor = { n.corridor with noticeOverflow := n'.corridor.noticeOverflow }

theorem set_get_self {α : Type} (v : PerSlot α) (k : Slot) : v.set k (v.get k) = v :=
  PerSlot.ext_get fun j => by by_cases h : j = k <;> simp [PerSlot.get_set, h]

theorem set_set {α : Type} (v : PerSlot α) (k : Slot) (a b : α) : (v.set k a).set k b = v.set k b :=
  PerSlot.ext_get fun j => by by_cases h : j = k <;> simp [PerSlot.get_set, h]

theorem signal_takesReports {k : Slot} {g : Signal} (about : IsAbout k g) (n : NoticeUnit) (q : NoticeStamp) :
    TakesReports n (n.signal q g) k [g] := by
  rcases about with ⟨d, rfl⟩ | ⟨c, on, d, rfl⟩
  · obtain ⟨slots, corridor⟩ := NoticeUnit.slotEvent_latches n q k d
    exact ⟨slots, NoticeUnit.signal_masks _ _ _, corridor⟩
  · obtain ⟨slots, corridor⟩ := NoticeUnit.condition_latches n q c k on d
    exact ⟨slots, NoticeUnit.signal_masks _ _ _, corridor⟩

theorem TakesReports.append {n n' n'' : NoticeUnit} {k : Slot} {gs hs : List Signal} (first : TakesReports n n' k gs)
    (second : TakesReports n' n'' k hs) : TakesReports n n'' k (gs ++ hs) where
  slots := by rw [second.slots, first.slots, set_set, PerSlot.get_set_self, List.foldl_append]
  masks := second.masks.trans first.masks
  corridor := by rw [second.corridor, first.corridor]

theorem signals_takesReports {k : Slot} {gs : List Signal} (about : ∀ g ∈ gs, IsAbout k g) (s : State) :
    TakesReports s.notices (s.signals gs).notices k gs := by
  induction gs generalizing s with
  | nil => exact ⟨(set_get_self _ _).symm, rfl, rfl⟩
  | cons g gs ih =>
    obtain ⟨head, tail⟩ := List.forall_mem_cons.1 about
    exact (signal_takesReports head s.notices s.stamp).append (ih tail (s.signal g))

/-- What is reported at one moment reaches the latches as it would alone (R191). -/
theorem moment_takesReports {f : State → State} {s : State} {k : Slot} {gs : List Signal}
    (h : TakesReports s.notices (f s.gather).notices k gs) : TakesReports s.notices (s.moment f).notices k gs := by
  obtain ⟨slots, masks, corridor⟩ := State.moment_latches f s
  exact ⟨slots.trans h.slots, masks.trans h.masks, by rw [corridor, h.corridor]⟩

/-! ### The latches of the Step Monitor's events -/

@[simp] theorem data_rise (l : EventLatch) (d : Option KindData) : (l.rise d).data = d := rfl

/-- The latches of the Step Monitor's three events agree. -/
structure SameEvents (l l' : SlotLatches) : Prop where
  stepChange : l'.stepChange = l.stepChange
  slip : l'.slip = l.slip
  realigned : l'.realigned = l.realigned

/-- The conditions that the Flow Estimator reports leave the latches of the Step Monitor's events (R69, R70). -/
theorem reportSignals_sameEvents (f : Flow) (k : Slot) (l : SlotLatches) :
    SameEvents l ((f.reportSignals k).foldl latchesAfter l) := by
  unfold Flow.reportSignals
  split
  · exact ⟨rfl, rfl, rfl⟩
  · exact ⟨rfl, rfl, rfl⟩

theorem reportSignals_about (f : Flow) (k : Slot) : ∀ g ∈ f.reportSignals k, IsAbout k g := by
  unfold Flow.reportSignals
  split
  · simp
  · exact List.forall_mem_cons.2 ⟨.inr ⟨_, _, _, rfl⟩, List.forall_mem_singleton.2 (.inr ⟨_, _, _, rfl⟩)⟩

/-! ### The reports of the Step Monitor -/

theorem stepChange_about (k : Slot) (old new : StepState) (cause : StepCause) :
    ∀ g ∈ stepChange k old new cause, IsAbout k g := by
  unfold stepChange
  split
  · simp
  · exact List.forall_mem_singleton.2 (.inl ⟨_, rfl⟩)

/-- A step-state change that is one is reported (R112). -/
theorem stepChange_of_ne {old new : StepState} (h : old ≠ new) (k : Slot) (cause : StepCause) :
    stepChange k old new cause = [.slotEvent k (.stepChange old new cause)] := if_neg h

/-- What the report of a step-state change does to the Notice Unit. -/
theorem signals_stepChange (s : State) (k : Slot) (old new : StepState) (cause : StepCause) :
    s.signals (stepChange k old new cause) = { s with
      notices := if old = new then s.notices
        else s.notices.signal s.stamp (.slotEvent k (.stepChange old new cause)) } := by
  unfold stepChange
  split <;> rfl

/-! ### Messages to the Transition Unit -/

/-- A message for slot `k` changes no other slot's record (R91, R111). -/
theorem take_records_of_ne (t : Transition) (c : Nat) {j k : Slot} (h : j ≠ k) (m : StepMessage) :
    (t.take c k m).records.get j = t.records.get j := by
  have modified : ∀ f, (t.modifyRecord k f).records.get j = t.records.get j := fun f => PerSlot.get_set_ne _ h _
  cases m with
  | resync n => cases hk : t.records.get k <;> simp [Transition.take, hk, PerSlot.get_set_ne _ h]
  | suspendModel => cases ht : t.tentative <;> simp [Transition.take, ht, modified]
  | dropModel => cases ht : t.tentative <;> simp [Transition.take, ht, modified]

/-- The Transition Unit once the Step Monitor's message for slot `k`, if there is one, has reached it (R111). -/
def told (t : Transition) (c : Nat) (k : Slot) : Option StepMessage → Transition
  | none => t
  | some m => t.take c k m

theorem tellTransition_transition (s : State) (k : Slot) (m : Option StepMessage) :
    (s.tellTransition k m).transition = told s.transition s.clock.length k m := by
  cases m <;> rfl

theorem told_records_of_ne (t : Transition) (c : Nat) {j k : Slot} (h : j ≠ k) (m : Option StepMessage) :
    (told t c k m).records.get j = t.records.get j := by
  cases m with
  | none => rfl
  | some m => exact take_records_of_ne t c h m

/-! ### An effect on one slot -/

/-- Everything an effect reports is about slot `k`. -/
def AboutOnly (k : Slot) (e : StepEffect) : Prop := ∀ g ∈ e.signals, IsAbout k g

theorem aboutOnly_of_silent (k : Slot) {e : StepEffect} (h : e.signals = []) : AboutOnly k e := by simp [AboutOnly, h]

theorem aboutOnly_of_stepChange (k : Slot) {e : StepEffect} {old new : StepState} {cause : StepCause}
    (h : e.signals = stepChange k old new cause) : AboutOnly k e := by
  rw [AboutOnly, h]
  exact stepChange_about k old new cause

theorem keep_about (k : Slot) (r : StepRecord) : AboutOnly k (.keep r) := aboutOnly_of_silent k rfl

/-- From `s` to `t` slot `k` has had the effect `e` of the Step Monitor: its record, its message to the Transition Unit
and its reports (R111, R112). -/
structure HasEffect (s t : State) (k : Slot) (e : StepEffect) : Prop where
  monitor : t.monitor = s.monitor.set k e.record
  transition : t.transition = told s.transition s.clock.length k e.message
  slots : ∀ j, j ≠ k → t.notices.slots.get j = s.notices.slots.get j
  events : SameEvents (e.signals.foldl latchesAfter (s.notices.slots.get k)) (t.notices.slots.get k)
  masks : t.notices.masks = s.notices.masks
  corridor : t.notices.corridor = { s.notices.corridor with noticeOverflow := t.notices.corridor.noticeOverflow }

section HasEffect
variable {s t : State} {k : Slot} {e : StepEffect}

theorem HasEffect.of_reports {more : List Signal} (monitor : t.monitor = s.monitor.set k e.record)
    (transition : t.transition = told s.transition s.clock.length k e.message)
    (notices : TakesReports s.notices t.notices k (e.signals ++ more))
    (quiet : ∀ l, SameEvents l (more.foldl latchesAfter l)) : HasEffect s t k e where
  monitor := monitor
  transition := transition
  slots j h := by rw [notices.slots, PerSlot.get_set_ne _ h]
  events := by
    rw [notices.slots, PerSlot.get_set_self, List.foldl_append]
    exact quiet _
  masks := notices.masks
  corridor := notices.corridor

theorem HasEffect.record (h : HasEffect s t k e) : t.monitor.get k = e.record := by
  rw [h.monitor, PerSlot.get_set_self]

theorem HasEffect.keepsOthers (h : HasEffect s t k e) {j : Slot} (hj : j ≠ k) : KeptAt s t j :=
  ⟨by rw [h.monitor, PerSlot.get_set_ne _ hj], by rw [h.transition, told_records_of_ne _ _ hj],
    h.slots j hj⟩

theorem HasEffect.onlySlot (h : HasEffect s t k e) : OnlySlot s t k :=
  ⟨fun _ hj => h.keepsOthers hj, h.masks, h.corridor⟩

/-- An effect that sends a resync has resynced the junction (R91). -/
theorem HasEffect.resynced (h : HasEffect s t k e) {measured : Nat} (message : e.message = some (.resync measured)) :
    Resynced s t k measured := by
  intro _ x hx
  rw [h.transition, message]
  simp only [told, Transition.take, hx, PerSlot.get_set_self]
  rfl

theorem HasEffect.transition_of_silent (h : HasEffect s t k e) (message : e.message = none) :
    t.transition = s.transition := by
  rw [h.transition, message]
  rfl

/-- An effect since a state that had the same step records, transition records, cycle length and notices but for the
queue. -/
theorem HasEffect.since {s' : State} (h : HasEffect s' t k e) (monitor : s'.monitor = s.monitor)
    (transition : s'.transition = s.transition) (clock : s'.clock = s.clock)
    (notices : { s'.notices with queue := s.notices.queue } = s.notices) : HasEffect s t k e where
  monitor := by rw [h.monitor, monitor]
  transition := by rw [h.transition, transition, clock]
  slots j hj := by rw [h.slots j hj, ← notices]
  events := by
    rw [← notices]
    exact h.events
  masks := by rw [h.masks, ← notices]
  corridor := by
    rw [← notices]
    exact h.corridor

theorem HasEffect.setLine (h : HasEffect s t k e) (l : Line) : HasEffect s (t.setLine l) k e :=
  ⟨h.monitor, h.transition, h.slots, h.events, h.masks, h.corridor⟩

/-- What has its effect at one moment has it on the part (R191). -/
theorem HasEffect.moment {f : State → State} (h : HasEffect s (f s.gather) k e) : HasEffect s (s.moment f) k e := by
  obtain ⟨slots, masks, corridor⟩ := State.moment_latches f s
  refine ⟨h.monitor, h.transition, fun j hj => ?_, ?_, masks.trans h.masks, by rw [corridor, h.corridor]⟩
  · rw [slots]
    exact h.slots j hj
  · rw [slots]
    exact h.events

end HasEffect

end Sys2Proof.Proofs.OffsetTransitions
end

section
/-! PROOFS. The host's orders FREE JUNCTION and RESEEK JUNCTION, and the withdrawal of a beacon (R88, R90, R113, R114,
R119, R155). -/

namespace Sys2Proof.Proofs.OffsetTransitions

open Sys2Proof.Machine Sys2Proof.Claims Sys2Proof.Proofs.TimingPlans

/-! ### FREE JUNCTION (R88, R114) -/

section freeJunction
variable {s : State} {b : Byte} {k : Slot}

theorem freeJunction_idle (idle : s.corridor.state = .idle) (b : Byte) :
    freeJunction b s = (.refuse .wrongState, s) := if_pos idle

theorem freeJunction_noSlot (busy : s.corridor.state ≠ .idle) (hb : NoSlot b) :
    freeJunction b s = (.badValue 0, s) := by
  simp [freeJunction, busy, slotArg_of_noSlot hb]

theorem freeJunction_undefined (busy : s.corridor.state ≠ .idle) (hb : IsSlot b k)
    (undefined : s.corridor.table.get k = none) : freeJunction b s = (.refuse .notDefined, s) := by
  simp [freeJunction, busy, slotArg_of_isSlot hb, State.defined, undefined]

theorem freeJunction_startingFree (busy : s.corridor.state ≠ .idle) (hb : IsSlot b k)
    (hk : s.corridor.table.get k ≠ none) (fresh : (s.monitor.get k).state = .startingFree) :
    freeJunction b s = (.refuse .wrongState, s) := by
  simp [freeJunction, busy, slotArg_of_isSlot hb, defined_iff.2 hk, fresh]

/-- What an accepted FREE JUNCTION leaves of the part (R88, R114). -/
def released (s : State) (k : Slot) : State :=
  { s with
    monitor := s.monitor.set k { s.monitor.get k with state := .released }
    transition := s.transition.discardSkew k
    notices := if (s.monitor.get k).state = .released then s.notices
      else s.notices.signal s.stamp (.slotEvent k (.stepChange (s.monitor.get k).state .released .order)) }

theorem freeJunction_releases (busy : s.corridor.state ≠ .idle) (hb : IsSlot b k)
    (hk : s.corridor.table.get k ≠ none) (started : (s.monitor.get k).state ≠ .startingFree) :
    freeJunction b s = (.ok [b, 7], released s k) := by
  simp only [freeJunction, busy, slotArg_of_isSlot hb, defined_iff.2 hk, started, if_false, Bool.not_true,
    Bool.false_eq_true, signals_stepChange]
  rfl

end freeJunction

theorem execFreeJunction_answers {s t : State} {r : Request} {b : Byte} {y : Reply} (head : s.AtHead 0x11 [b] r)
    (h : freeJunction b s = (y, t)) :
    exec .freeJunction s = .next { t with host := answered t.host r y.result y.content } :=
  serve_stores head h

/-- With no tentative copy, FREE JUNCTION discards the pending skew of its own slot alone (R88). -/
theorem discardSkew_of_no_copy {t : Transition} (h : t.tentative = none) (k : Slot) :
    t.discardSkew k =
      { t with records := t.records.modify k (Option.map fun x => { x with pendingSkew := none }) } := by
  simp [Transition.discardSkew, h, Transition.modifyRecord, TransitionRecord.applyHeld]

/-- Settles O40: each check refuses before the next is made, and what is left is the release. -/
theorem freeJunctionReleases : Obligations.FreeJunctionReleases := by
  unfold Obligations.FreeJunctionReleases
  intro s r b head
  refine ⟨fun idle => execFreeJunction_answers head (freeJunction_idle idle b),
    fun busy hb => execFreeJunction_answers head (freeJunction_noSlot busy hb),
    fun k busy hb hk => execFreeJunction_answers head (freeJunction_undefined busy hb hk),
    fun k busy hb hk fresh => execFreeJunction_answers head (freeJunction_startingFree busy hb hk fresh),
    fun k busy hb hk started =>
      ⟨_, execFreeJunction_answers head (freeJunction_releases busy hb hk started), rfl, fun standing => ?_⟩⟩
  have dropped : (released s k).transition = _ := discardSkew_of_no_copy standing k
  refine ⟨?_, fun j hj => ?_, ?_⟩
  · exact dropped.trans (by rw [dropped])
  · exact (congrArg (·.records.get j) dropped).trans (PerSlot.get_set_ne _ hj _)
  · exact (congrArg (·.records.get k) dropped).trans (PerSlot.get_set_self _ _ _)

/-! ### RESEEK JUNCTION (R113, R119) -/

theorem holdsValid_isSome {d : Directory} {p : PlanNo} : (d.holdsValid p).isSome = true ↔ ∃ x, d.get x = .valid p := by
  simp [Directory.holdsValid]

/-- A junction has a running slot exactly when it holds the active plan Valid (R126). -/
theorem runningSlot_isSome {s : State} {p : PlanNo} (active : s.directory.active = some p) (k : Slot) :
    (s.runningSlot k).isSome = true ↔ HoldsValid s k p := by
  simp [State.runningSlot, active, holdsValid_isSome, HoldsValid]

/-- The step states in which RESEEK JUNCTION is taken (R113). -/
def TakesReseek (x : StepState) : Prop := x = .released ∨ x = .excluded ∨ x = .yielded ∨ x = .inStep

/-- Only a retained expected offset is struck out of the alignment memory (R119; log 13). -/
theorem disown_eq : Memory.disown = fun m => { m with expected := match m.expected with
    | .retained _ => .none
    | .valid o => .valid o
    | .none => .none } := by
  funext m
  unfold Memory.disown
  cases m.expected <;> rfl

section reseekJunction
variable {s : State} {b : Byte} {k : Slot} {p : PlanNo}

theorem reseekJunction_notRunning (h : s.corridor.state ≠ .running) (b : Byte) :
    reseekJunction b s = (.refuse .wrongState, s) := if_pos h

theorem reseekJunction_noSlot (running : s.corridor.state = .running) (hb : NoSlot b) :
    reseekJunction b s = (.badValue 0, s) := by
  simp [reseekJunction, running, slotArg_of_noSlot hb]

theorem reseekJunction_undefined (running : s.corridor.state = .running) (hb : IsSlot b k)
    (undefined : s.corridor.table.get k = none) : reseekJunction b s = (.refuse .notDefined, s) := by
  simp [reseekJunction, running, slotArg_of_isSlot hb, State.defined, undefined]

theorem reseekJunction_wrongState (running : s.corridor.state = .running) (hb : IsSlot b k)
    (hk : s.corridor.table.get k ≠ none) (h : ¬ TakesReseek (s.monitor.get k).state) :
    reseekJunction b s = (.refuse .wrongState, s) := by
  simp only [reseekJunction, running, slotArg_of_isSlot hb, defined_iff.2 hk]
  exact if_neg h

/-- An accepted RESEEK JUNCTION is decided by the running slot. -/
theorem reseekJunction_taken (running : s.corridor.state = .running) (hb : IsSlot b k)
    (hk : s.corridor.table.get k ≠ none) (h : TakesReseek (s.monitor.get k).state) :
    reseekJunction b s =
      if (s.runningSlot k).isSome then
        (.ok [b, 2], ((s.setMonitor (s.monitor.set k (s.monitor.get k).reseek)).tellTransition k
          (some .dropModel)).signals (stepChange k (s.monitor.get k).state .absent .order))
      else
        (.ok [b, 8], (s.setMonitor (s.monitor.set k { s.monitor.get k with
          state := .excluded, cause := .plan })).signals (stepChange k (s.monitor.get k).state .excluded .order)) := by
  simp only [reseekJunction, running, slotArg_of_isSlot hb, defined_iff.2 hk]
  exact if_pos h

theorem takesReseek_ne_absent {x : StepState} (h : TakesReseek x) : x ≠ .absent := by
  rintro rfl
  simp [TakesReseek] at h

theorem reseekJunction_readmits (running : s.corridor.state = .running) (hb : IsSlot b k)
    (hk : s.corridor.table.get k ≠ none) (active : s.directory.active = some p)
    (h : TakesReseek (s.monitor.get k).state) (holds : HoldsValid s k p) (standing : s.transition.tentative = none) :
    reseekJunction b s = (.ok [b, 2], { s with
      monitor := s.monitor.set k (s.monitor.get k).reseek
      transition := s.transition.modifyRecord k fun x => { x with model := .none }
      notices := s.notices.signal s.stamp
        (.slotEvent k (.stepChange (s.monitor.get k).state .absent .order)) }) := by
  rw [reseekJunction_taken running hb hk h, if_pos ((runningSlot_isSome active k).2 holds),
    signals_stepChange, if_neg (takesReseek_ne_absent h)]
  simp only [State.tellTransition, Transition.take, State.setMonitor_transition, standing]
  rfl

theorem reseekJunction_excludes (running : s.corridor.state = .running) (hb : IsSlot b k)
    (hk : s.corridor.table.get k ≠ none) (active : s.directory.active = some p)
    (h : TakesReseek (s.monitor.get k).state) (lacks : ¬ HoldsValid s k p) :
    reseekJunction b s = (.ok [b, 8], { s with
      monitor := s.monitor.set k { s.monitor.get k with state := .excluded, cause := .plan }
      notices := if (s.monitor.get k).state = .excluded then s.notices
        else s.notices.signal s.stamp
          (.slotEvent k (.stepChange (s.monitor.get k).state .excluded .order)) }) := by
  rw [reseekJunction_taken running hb hk h, if_neg (mt (runningSlot_isSome active k).1 lacks),
    signals_stepChange]
  rfl

end reseekJunction

theorem execReseekJunction_answers {s t : State} {r : Request} {b : Byte} {y : Reply} (head : s.AtHead 0x12 [b] r)
    (h : reseekJunction b s = (y, t)) :
    exec .reseekJunction s = .next { t with host := answered t.host r y.result y.content } :=
  serve_stores head h

/-- Settles O41: the checks in their order, then the running slot decides between Absent and Excluded. -/
theorem reseekJunctionReadmits : Obligations.ReseekJunctionReadmits := by
  unfold Obligations.ReseekJunctionReadmits
  intro s r b head
  refine ⟨fun h => execReseekJunction_answers head (reseekJunction_notRunning h b),
    fun running hb => execReseekJunction_answers head (reseekJunction_noSlot running hb),
    fun k running hb hk => execReseekJunction_answers head (reseekJunction_undefined running hb hk),
    fun k running hb hk notReleased notExcluded notYielded notInStep =>
      execReseekJunction_answers head (reseekJunction_wrongState running hb hk ?_),
    fun k p running hb hk active taken => ⟨fun holds standing => ?_, fun lacks =>
      execReseekJunction_answers head (reseekJunction_excludes running hb hk active taken lacks)⟩⟩
  · simp [TakesReseek, notReleased, notExcluded, notYielded, notInStep]
  · have readmits := reseekJunction_readmits running hb hk active taken holds standing
    refine (execReseekJunction_answers head readmits).trans ?_
    rw [StepRecord.reseek, disown_eq]
    rfl

/-! ### A beacon withdrawn (R90, R155) -/

/-- Applying a message that was held changes the records alone (R90). -/
theorem release_eq (t : Transition) :
    t.release = { t with records := t.release.records, tentative := none, held := [] } := by
  have keeps : (t.held.foldl (fun t x => t.modifyRecord x.1 fun r => r.applyHeld x.2) t).adoptAll = t.adoptAll :=
    
    foldl_keeps Transition.adoptAll (fun t (x : Slot × HeldMessage) => t.modifyRecord x.1 fun r => r.applyHeld x.2)
      (fun _ _ => rfl) t.held t
  simp [Transition.release, keeps]

theorem release_of_none_held {t : Transition} (h : t.held = []) : t.release.records = t.records := by
  simp [Transition.release, h]

theorem beacon_not_mem_dropBeacon (b : Beacon) (q : List TxFrame) : TxFrame.beacon b ∉ dropBeacon q := by
  simp [dropBeacon]

theorem load_mem_dropBeacon {f : ImageLoad} {q : List TxFrame} : .load f ∈ dropBeacon q ↔ .load f ∈ q := by
  simp [dropBeacon]

/-- BEACON_SKIPPED's latch once it has been raised (10.5). -/
theorem beaconSkipped_signal (n : NoticeUnit) (q : NoticeStamp) (sequence : Nat) (reply : Bool) :
    (n.signal q (.event (.beaconSkipped sequence reply))).corridor.beaconSkipped =
      n.corridor.beaconSkipped.rise (some (.beaconSkipped sequence reply)) := by
  rw [(NoticeUnit.event_latches n q _).2]
  rfl

/-- What a beacon withdrawn at its limit leaves of the part. -/
def withdrawn (s : State) (limit : Nat) : State :=
  { s with
    clock := { s.clock with masterTime := limit + 1 }
    line := { s.line with queue := dropBeacon s.line.queue, beacon := .withdrawn }
    transition := s.transition.release
    notices := s.notices.signal s.stamp (.event (.beaconSkipped s.clock.sequence s.replyHolds))
    free := s.free + 1 }

theorem execBeaconWithdrawn_eq {s : State} {limit : Nat} (waits : s.line.beacon = .waiting limit)
    (early : s.clock.masterTime ≤ limit + 1) : exec .beaconWithdrawn s = .next (withdrawn s limit) := by
  simp only [exec, execBeaconWithdrawn, waits, if_neg (Nat.not_lt.2 early)]
  rfl

/-- Settles O46: the queue loses its beacon alone, and the release of an empty list of messages changes no record. -/
theorem beaconWithdrawnKeepsTheModels : Obligations.BeaconWithdrawnKeepsTheModels := by
  unfold Obligations.BeaconWithdrawnKeepsTheModels
  intro s limit waits early
  have latch : (withdrawn s limit).notices.corridor.beaconSkipped = _ := beaconSkipped_signal _ _ _ _
  refine ⟨withdrawn s limit, execBeaconWithdrawn_eq waits early, ?_, fun b => beacon_not_mem_dropBeacon b _,
    fun f => load_mem_dropBeacon, fun none_held => release_of_none_held none_held, by rw [latch]; rfl,
    fun noExchange => ?_, fun exchange quiet hunting => ?_⟩
  · exact congrArg (fun t => { withdrawn s limit with transition := t }) (release_eq s.transition)
  · rw [latch]
    simp [State.replyHolds, noExchange]
  · rw [latch]
    simp [State.replyHolds, Option.isSome_iff_ne_none.2 exchange, quiet, hunting]

end Sys2Proof.Proofs.OffsetTransitions
end

section
/-! PROOFS. The end of a poll: what a timeout leaves of the line and the sweep, and what a miss does to its slot (R81,
R109, R110, R151, R158). -/

namespace Sys2Proof.Proofs.OffsetTransitions

open Sys2Proof.Machine Sys2Proof.Claims

/-! ### A miss at the Step Monitor (R109, R110) -/

theorem joinWindow_eq_joined (n : Nat) (w : List WindowOutcome) (o : WindowOutcome) :
    joinWindow n w o = joined n w o := by
  simp [joinWindow, joined]

/-- The step record of a junction whose misses count, once it has missed (R109). -/
def missedRecord (g : Settings) (r : StepRecord) : StepRecord :=
  { r with
    sweep := .missed, misses := r.misses + 1
    window := if r.state = .inStep then joined g.slipWindow r.window .miss else r.window }

section stepMiss
variable {r : StepRecord}

theorem stepMiss_counted (h : CountsMisses r) (g : Settings) (k : Slot) :
    stepMiss g k r = afterMiss k (missedRecord g r) := by
  rcases h with h | h | h <;> simp [stepMiss, missedRecord, h, joinWindow_eq_joined]

theorem stepMiss_noted (h : ¬ CountsMisses r) (g : Settings) (k : Slot) :
    stepMiss g k r = .keep { r with sweep := .missed } := by
  unfold stepMiss
  dsimp only
  split
  case h_1 seeking => exact absurd (.inl seeking) h
  case h_2 confirming => exact absurd (.inr (.inl confirming)) h
  case h_3 inStep => exact absurd (.inr (.inr inStep)) h
  all_goals rfl

theorem stepMiss_counted_of_ne (h : CountsMisses r) (early : r.misses ≠ 2) (g : Settings) (k : Slot) :
    stepMiss g k r = .keep (missedRecord g r) := by
  have notThird : (missedRecord g r).misses ≠ 3 := by simpa [missedRecord] using early
  rw [stepMiss_counted h, afterMiss, if_neg notThird]

theorem countsMisses_ne_absent (h : CountsMisses r) : r.state ≠ .absent := by
  rcases h with h | h | h <;> simp [h]

theorem stepMiss_third (h : CountsMisses r) (third : r.misses = 2) (g : Settings) (k : Slot) :
    stepMiss g k r =
      { record := { missedRecord g r with state := .absent, run := 0 }
        signals := [.slotEvent k (.stepChange r.state .absent .miss)], message := some .suspendModel } := by
  have count : (missedRecord g r).misses = 3 := by simp [missedRecord, third]
  rw [stepMiss_counted h, afterMiss, if_pos count, ← stepChange_of_ne (countsMisses_ne_absent h)]
  rfl

/-- A miss that is not the third in a row says nothing. -/
theorem stepMiss_silent (h : ¬ (CountsMisses r ∧ r.misses = 2)) (g : Settings) (k : Slot) :
    ∃ r', stepMiss g k r = .keep r' := by
  by_cases counts : CountsMisses r
  · exact ⟨_, stepMiss_counted_of_ne counts (fun third => h ⟨counts, third⟩) g k⟩
  · exact ⟨_, stepMiss_noted counts g k⟩

theorem stepMiss_about (g : Settings) (k : Slot) (r : StepRecord) : AboutOnly k (stepMiss g k r) := by
  by_cases third : CountsMisses r ∧ r.misses = 2
  · rw [stepMiss_third third.1 third.2]
    exact List.forall_mem_singleton.2 (.inl ⟨_, rfl⟩)
  · obtain ⟨r', keeps⟩ := stepMiss_silent third g k
    rw [keeps]
    exact keep_about k r'

end stepMiss

/-- A model is suspended at once while no tentative copy stands (R81). -/
theorem take_suspendModel {t : Transition} (standing : t.tentative = none) {k : Slot} {x : TransitionRecord} {o : Nat}
    (hx : t.records.get k = some x) (valid : x.model = .valid o) (c : Nat) :
    (t.take c k .suspendModel).records.get k = some { x with model := .retained o } := by
  simp [Transition.take, standing, Transition.modifyRecord, PerSlot.modify, hx, TransitionRecord.applyHeld, valid]

section missed
variable {s t : State} {k : Slot}

/-- The effect of a miss is R109's and R110's. -/
theorem missed_of_hasEffect (h : HasEffect s t k (stepMiss s.corridor.settings k (s.monitor.get k))) :
    Missed s t k := by
  have silent : ¬ (CountsMisses (s.monitor.get k) ∧ (s.monitor.get k).misses = 2) →
      t.transition = s.transition ∧
        (t.notices.slots.get k).stepChange = (s.notices.slots.get k).stepChange := fun notThird => by
    obtain ⟨r', keeps⟩ := stepMiss_silent notThird s.corridor.settings k
    rw [keeps] at h
    exact ⟨h.transition_of_silent rfl, h.events.stepChange⟩
  refine ⟨fun j hj => ?_, ⟨fun notThird => ?_, fun counts early => ?_, fun counts third => ?_, fun noted => ?_⟩,
    fun notThird => (silent notThird).1⟩
  · obtain ⟨monitor, record, -⟩ := h.keepsOthers hj
    exact ⟨monitor, record⟩
  · obtain ⟨transition, latch⟩ := silent notThird
    exact ⟨by rw [transition], latch⟩
  · rw [h.record, stepMiss_counted_of_ne counts early]
    rfl
  · rw [stepMiss_third counts third] at h
    refine ⟨h.record, by rw [h.events.stepChange]; rfl, fun x o standing hx valid => ?_⟩
    rw [h.transition]
    exact take_suspendModel standing hx valid s.clock.length
  · rw [h.record, stepMiss_noted noted]
    rfl

end missed

/-- The delivery of a miss changes the step records, the transition records and the notices alone (R158). -/
theorem deliverMiss_eq (s : State) (k : Slot) :
    s.deliverMiss k = { s with
      monitor := s.monitor.set k (stepMiss s.corridor.settings k (s.monitor.get k)).record
      transition := told s.transition s.clock.length k (stepMiss s.corridor.settings k (s.monitor.get k)).message
      notices := (s.deliverMiss k).notices } := by
  apply State.eq_of_blocks <;> simp [State.deliverMiss, State.applyStep, tellTransition_transition]

theorem deliverMiss_takesReports (s : State) (k : Slot) :
    TakesReports s.notices (s.deliverMiss k).notices k (stepMiss s.corridor.settings k (s.monitor.get k)).signals := by
  have told := signals_takesReports (stepMiss_about s.corridor.settings k (s.monitor.get k))
    (s.applyStep k (stepMiss s.corridor.settings k (s.monitor.get k)))
  rwa [State.applyStep_notices] at told

/-! ### One moment without a report (R191) -/

theorem joinBlocks_nil : ∀ (blocks : List Block) (n : Nat), joinBlocks blocks n [] = []
  | [], _ => rfl
  | _ :: blocks, n => by simp [joinBlocks, joinBlocks_nil blocks, interleave]

/-- A moment leaves what its effect leaves, but for the notices and the count of free values. -/
theorem moment_eq {f : State → State} {s u : State} (h : f s.gather = u) :
    s.moment f = { u with notices := (s.moment f).notices, free := (s.moment f).free } := by
  subst h
  rfl

/-- A moment at which nothing is reported leaves the Notice Unit as it was. -/
theorem moment_notices_of_quiet {f : State → State} {s : State} (quiet : (f s.gather).notices = s.gather.notices) :
    (s.moment f).notices = s.notices := by
  rw [State.moment_notices, quiet]
  simp [State.gather, joinBlocks_nil]

/-! ### The current slot of the sweep (R158, R159) -/

/-- With a further slot still to be polled, the slot that is resolved leaves the sweep, and nothing else changes. -/
theorem slotResolved_of_waiting {s : State} {w : Sweep} (sweep : s.line.sweep = some w) (more : w.waiting ≠ []) :
    s.slotResolved = s.setLine { s.line with sweep := some { w with current := none } } := by
  simp [State.slotResolved, sweep, more]

section pollFailed
variable {s : State} {k : Slot} {w : Sweep} {attempt : Nat}

theorem pollFailed_first (sweep : s.line.sweep = some w) (first : attempt ≤ 1) :
    s.pollFailed k attempt = s.setLine { s.line with sweep := some { w with current := some (k, 2) } } := by
  simp [State.pollFailed, first, sweep]

theorem pollFailed_last (sweep : s.line.sweep = some w) (more : w.waiting ≠ []) (last : ¬ attempt ≤ 1) :
    s.pollFailed k attempt =
      (s.deliverMiss k).setLine { s.line with sweep := some { w with current := none } } := by
  have kept : (s.deliverMiss k).line.sweep = some w := by rw [State.deliverMiss_line, sweep]
  rw [State.pollFailed, if_neg last, slotResolved_of_waiting kept more, State.deliverMiss_line]

end pollFailed

/-! ### The reply window closes (R151) -/

theorem frameInWindow_of_assembly {l : Line} {f : RxFrame} {tag : WindowTag} (assembly : l.assembly = some f)
    (hf : f.tag = some tag) (live : tag.live = true) : l.frameInWindow = true := by
  simp [Line.frameInWindow, assembly, hf, live]

theorem frameInWindow_of_empty {l : Line} (hunting : l.assembly = none) (empty : l.unchecked = []) :
    l.frameInWindow = false := by
  simp [Line.frameInWindow, hunting, empty]

section timeout
variable {s : State} {e : Exchange}

theorem execReplyTimeout_waits (exchange : s.line.exchange = some e) (opened : e.window ≠ none)
    (inside : s.line.frameInWindow = true) :
    exec .replyTimeout s = .next { s with line := { s.line with exchange := some { e with window := none } } } := by
  obtain ⟨n, window⟩ := Option.ne_none_iff_exists'.1 opened
  simp only [exec, execReplyTimeout, exchange, window, inside]
  rfl

theorem execReplyTimeout_ends (exchange : s.line.exchange = some e) (opened : e.window ≠ none)
    (outside : s.line.frameInWindow = false) :
    exec .replyTimeout s = .next (s.moment (·.endExchange .timedOut)) := by
  obtain ⟨n, window⟩ := Option.ne_none_iff_exists'.1 opened
  simp [exec, execReplyTimeout, exchange, window, outside]

end timeout

/-- The line once the exchange of a poll has ended with an empty receive buffer, `w` being left of the sweep (R151). -/
def endedLine (l : Line) (w : Sweep) : Line :=
  { l with exchange := none, transmitter := .free, txChars := [], sweep := some w }

/-- A poll that has ended leaves the other blocks as they were (R158). -/
theorem pollOver_endedLine {s : State} (hunting : s.line.assembly = none) (w : Sweep) (monitor : PerSlot StepRecord)
    (transition : Transition) (notices : NoticeUnit) (free : Nat) :
    PollOver s { s with
      line := endedLine s.line w, monitor := monitor, transition := transition, notices := notices, free := free } := by
  simp [PollOver, endedLine, hunting]

/-- A poll of the sweep `w`, with a further slot still to be polled, whose window closes over an empty receive
buffer. -/
structure TimesOut (s : State) (e : Exchange) (w : Sweep) : Prop where
  exchange : s.line.exchange = some e
  poll : e.kind = .poll
  sweep : s.line.sweep = some w
  more : w.waiting ≠ []
  hunting : s.line.assembly = none
  empty : s.line.unchecked = []

section TimesOut
variable {s : State} {e : Exchange} {w : Sweep}

theorem TimesOut.endExchange_eq (h : TimesOut s e w) :
    s.gather.endExchange .timedOut = (s.gather.setLine (endedLine s.line w)).pollFailed e.slot e.attempt := by
  have line : s.gather.line.endExchange = endedLine s.line w := by
    simp [Line.endExchange, endedLine, h.hunting, h.empty, ← h.sweep]
  simp only [State.endExchange, State.gather_line, h.exchange, h.poll, State.pollOutcome]
  exact congrArg (fun l => (s.gather.setLine l).pollFailed e.slot e.attempt) line

/-- A first attempt is to be repeated, and nothing is reported (R158). -/
theorem TimesOut.first (h : TimesOut s e w) (first : e.attempt ≤ 1) :
    ∃ free, s.moment (·.endExchange .timedOut) = { s with
      line := endedLine s.line { w with current := some (e.slot, 2) }, free := free } := by
  have ends := h.endExchange_eq.trans (pollFailed_first (w := w) rfl first)
  have quiet : (s.moment (·.endExchange .timedOut)).notices = s.notices := moment_notices_of_quiet (by rw [ends]; rfl)
  refine ⟨(s.moment (·.endExchange .timedOut)).free, (moment_eq ends).trans ?_⟩
  rw [quiet]
  rfl

/-- After the last attempt the miss is delivered and the slot leaves the sweep (R158). -/
theorem TimesOut.last (h : TimesOut s e w) (last : ¬ e.attempt ≤ 1) :
    ∃ notices free, s.moment (·.endExchange .timedOut) = { s with
        line := endedLine s.line { w with current := none }
        monitor := s.monitor.set e.slot (stepMiss s.corridor.settings e.slot (s.monitor.get e.slot)).record
        transition := told s.transition s.clock.length e.slot
          (stepMiss s.corridor.settings e.slot (s.monitor.get e.slot)).message
        notices := notices, free := free } ∧
      TakesReports s.notices notices e.slot
        (stepMiss s.corridor.settings e.slot (s.monitor.get e.slot)).signals := by
  have ends := h.endExchange_eq.trans (pollFailed_last (w := w) rfl h.more last)
  have told := deliverMiss_takesReports (s.gather.setLine (endedLine s.line w)) e.slot
  refine ⟨(s.moment (·.endExchange .timedOut)).notices, (s.moment (·.endExchange .timedOut)).free,
    (moment_eq ends).trans ?_, moment_takesReports ?_⟩
  · rw [deliverMiss_eq]
    rfl
  · rw [ends]
    exact ⟨told.slots, told.masks, told.corridor⟩

end TimesOut

/-- Settles O49: the window closes over a frame that began in it, or over an empty buffer, which fails the poll. -/
theorem timeoutRetriesThenMisses : Obligations.TimeoutRetriesThenMisses := by
  unfold Obligations.TimeoutRetriesThenMisses
  intro s e w exchange poll opened sweep
  refine ⟨fun f tag assembly hf live =>
    execReplyTimeout_waits exchange opened (frameInWindow_of_assembly assembly hf live),
    fun hunting empty more => ⟨_, execReplyTimeout_ends exchange opened (frameInWindow_of_empty hunting empty), ?_⟩⟩
  have out : TimesOut s e w := ⟨exchange, poll, sweep, more, hunting, empty⟩
  by_cases first : e.attempt ≤ 1
  · obtain ⟨free, leaves⟩ := out.first first
    rw [leaves]
    exact ⟨⟨pollOver_endedLine hunting _ _ _ _ _, fun _ => ⟨rfl, rfl, rfl⟩, fun second => by omega⟩, empty, rfl, rfl,
      rfl, fun _ => rfl⟩
  · obtain ⟨notices, free, leaves, told⟩ := out.last first
    rw [leaves]
    refine ⟨⟨pollOver_endedLine hunting _ _ _ _ _, fun one => by omega, fun _ => ⟨rfl, ?_⟩⟩, empty, rfl, rfl, rfl,
      fun one => by omega⟩
    exact missed_of_hasEffect (.of_reports (more := []) rfl rfl (by simpa using told) fun _ => ⟨rfl, rfl, rfl⟩)

end Sys2Proof.Proofs.OffsetTransitions
end

section
/-! PROOFS. A report at the Step Monitor: its measurement and judgement, the effect of each kind of report in each step
state, and which latches its reports reach (R100 to R108, R112). -/

namespace Sys2Proof.Proofs.OffsetTransitions

open Sys2Proof.Machine Sys2Proof.Claims

/-! ### Measurement and error (R101, R102) -/

/-- What the Step Monitor reads of a report's bytes (R100, R176). -/
def stepOf (r : ReportBytes) (mode : LocalMode) : StepReport := { u := r.u, running := r.running.toNat, mode := mode }

theorem measure_eq_measuredOf (m : Memory) (u : Nat) : measure m u = measuredOf m u := modC_add _ _ _

/-- The representative nearest zero is the only one in its range (R102). -/
theorem centre_of_isError {c : Nat} (pos : 0 < c) {x err : Int} (h : IsError c x err) : centre c x = err := by
  obtain ⟨low, high, z, rfl⟩ := h
  have same : (err + z * c) % (c : Int) = err % c := Int.add_mul_emod_self_right _ _ _
  simp only [centre, same]
  by_cases sign : 0 ≤ err
  · rw [Int.emod_eq_of_lt sign (by omega), if_neg (by omega)]
  · have wraps : err % (c : Int) = err + c := by
      rw [← Int.add_emod_right]
      exact Int.emod_eq_of_lt (by omega) (by omega)
    rw [wraps, if_pos (by omega)]
    omega

theorem offsetError_of_isError {m : Memory} (cycle : 0 < m.cycle) {measured o : Nat} {err : Int}
    (h : IsError m.cycle ((measured : Int) - o) err) : offsetError m measured o = err := centre_of_isError cycle h

/-! ### Judgement (R102, R108) -/

theorem localOverride_iff {s : State} {r : ReportBytes} {mode : LocalMode} :
    localOverride s.corridor.settings (stepOf r mode) = true ↔ Overrides s mode := by
  simp [localOverride, stepOf, Overrides]

theorem judge_unjudged {m : Memory} (h : m.command ≠ .run ∨ ∀ o, m.expected ≠ .valid o) (tolerance measured : Nat)
    (x : StepReport) : judge tolerance m measured x = .unjudged := by
  unfold judge
  split
  case h_1 o command expected => exact h.elim (absurd command) fun none => absurd expected (none o)
  case h_2 => rfl

section judged
variable {s : State} {m : Memory} {r : ReportBytes} {mode : LocalMode} {err : Int}

theorem mismatchOf_of_matches (h : Matches s m r mode err) :
    mismatchOf s.corridor.settings.tolerance m err (stepOf r mode) = none := by
  obtain ⟨near, slot, coordinated⟩ := h
  simp [mismatchOf, stepOf, slot, coordinated, Nat.not_lt.2 near]

theorem mismatchOf_of_not_matches (h : ¬ Matches s m r mode err) :
    mismatchOf s.corridor.settings.tolerance m err (stepOf r mode) = some (mismatchKind s m r err) := by
  unfold mismatchOf mismatchKind
  by_cases far : s.corridor.settings.tolerance < err.natAbs
  · rw [if_pos far, if_pos far]
  · by_cases slot : r.running.toNat = m.slot.num
    · have elsewhere : mode ≠ .coordinated := fun coordinated => h ⟨Nat.not_lt.1 far, slot, coordinated⟩
      simp [far, stepOf, slot, elsewhere]
    · simp [far, stepOf, slot]

theorem judge_judged {measured o : Nat} (cycle : 0 < m.cycle) (command : m.command = .run)
    (expected : m.expected = .valid o) (h : IsError m.cycle ((measured : Int) - o) err) :
    judge s.corridor.settings.tolerance m measured (stepOf r mode) =
      .judged err (mismatchOf s.corridor.settings.tolerance m err (stepOf r mode)) := by
  simp only [judge, command, expected, offsetError_of_isError cycle h]

end judged

/-! ### The common steps, then the rule of the step state (R100) -/

/-- The rule of step state `state` for a report that measures `measured` (R103 to R108). -/
def ruleOf (g : Settings) (k : Slot) (r : StepRecord) (m : Memory) (measured : Nat) (x : StepReport) :
    StepState → StepEffect
  | .absent => reportAbsent g k r m measured x
  | .seeking => reportSeeking g k r m measured x
  | .confirming => reportConfirming g k r m measured x
  | .inStep => reportInStep g k r m measured x
  | .yielded => reportYielded k r x
  | .vacant | .startingFree | .released | .excluded => .keep r

theorem stepReport_eq {old : StepRecord} {m : Memory} (memory : old.memory = some m) (g : Settings) (k : Slot)
    (r : ReportBytes) (mode : LocalMode) :
    stepReport g k old (stepOf r mode) =
      ruleOf g k (reported old mode (measuredOf m r.u)) m (measuredOf m r.u) (stepOf r mode) old.state := by
  rw [← measure_eq_measuredOf]
  cases old with
  | mk state =>
    subst memory
    cases state <;> rfl

/-! ### Which latches a report reaches -/

section about
variable (g : Settings) (k : Slot) (r : StepRecord) (m : Memory) (measured : Nat) (x : StepReport)

theorem toYielded_about : AboutOnly k (toYielded k r) := aboutOnly_of_stepChange k rfl

theorem reportAbsent_about : AboutOnly k (reportAbsent g k r m measured x) := by
  unfold reportAbsent
  split
  · exact toYielded_about k r
  · split
    · dsimp only
      split
      · refine List.forall_mem_append.2 ⟨stepChange_about _ _ _ _, ?_⟩
        split
        · exact List.forall_mem_singleton.2 (.inl ⟨_, rfl⟩)
        · simp
      all_goals exact aboutOnly_of_stepChange k rfl
    · exact keep_about k r

theorem followFailure_about (err : Int) : AboutOnly k (followFailure g k r err measured) := by
  unfold followFailure
  dsimp only
  split
  all_goals exact aboutOnly_of_stepChange k rfl

theorem reportSeeking_about : AboutOnly k (reportSeeking g k r m measured x) := by
  unfold reportSeeking
  split
  · exact toYielded_about k r
  · split
    · exact aboutOnly_of_silent k rfl
    · exact aboutOnly_of_stepChange k rfl
    · exact followFailure_about g k r measured _

theorem reportConfirming_about : AboutOnly k (reportConfirming g k r m measured x) := by
  unfold reportConfirming
  split
  · exact toYielded_about k r
  · split
    · exact aboutOnly_of_silent k rfl
    · split
      · exact aboutOnly_of_stepChange k rfl
      · exact aboutOnly_of_silent k rfl
    · exact followFailure_about g k r measured _

theorem reportInStep_about : AboutOnly k (reportInStep g k r m measured x) := by
  unfold reportInStep
  split
  · exact toYielded_about k r
  · split
    · exact aboutOnly_of_silent k rfl
    · exact aboutOnly_of_silent k rfl
    · dsimp only
      split
      · exact List.forall_mem_cons.2 ⟨.inl ⟨_, rfl⟩, stepChange_about _ _ _ _⟩
      · exact List.forall_mem_singleton.2 (.inl ⟨_, rfl⟩)

theorem reportYielded_about : AboutOnly k (reportYielded k r x) := by
  unfold reportYielded
  split
  · exact aboutOnly_of_stepChange k rfl
  · exact keep_about k r

/-- Whatever a report does to its slot, it reports of that slot alone (R112). -/
theorem stepReport_about : AboutOnly k (stepReport g k r x) := by
  unfold stepReport
  split
  · exact keep_about k _
  · dsimp only
    split
    · exact reportAbsent_about g k _ _ _ x
    · exact reportSeeking_about g k _ _ _ x
    · exact reportConfirming_about g k _ _ _ x
    · exact reportInStep_about g k _ _ _ x
    · exact reportYielded_about k _ x
    all_goals exact keep_about k _

end about

end Sys2Proof.Proofs.OffsetTransitions
end

section
/-! PROOFS. A whole CYCLE REPORT that arrives in the window of its poll: it is classified, delivered to the Step Monitor
and the Flow Estimator, and its slot leaves the sweep (R151, R158, R175, R176). -/

namespace Sys2Proof.Proofs.OffsetTransitions

open Sys2Proof.Machine Sys2Proof.Claims Sys2Proof.Proofs.TimingPlans

/-! ### The form of a report (R175) -/

theorem ofCode_code (mode : LocalMode) : LocalMode.ofCode mode.code = some mode := by cases mode <;> rfl

/-- A well-formed report is read as its bytes say. -/
theorem readCycleReport_body {r : ReportBytes} {mode : LocalMode} (formed : r.Formed mode) (echo : Byte) :
    readCycleReport (r.body echo) =
      some { echo := echo.toNat, step := stepOf r mode, flow := ⟨r.inbound, r.outbound⟩ } := by
  obtain ⟨running, code⟩ := formed
  simp only [readCycleReport, ReportBytes.body, code, ofCode_code, if_pos running]
  rfl

/-! ### Delivery (R176) -/

/-- The delivery of a report has the effect of the report on its slot (R100, R176). -/
theorem deliverReport_hasEffect (s : State) (k : Slot) (x : StepReport) (y : Both ApproachReport) :
    HasEffect s (s.deliverReport k x y) k (stepReport s.corridor.settings k (s.monitor.get k) x) := by
  have step := signals_takesReports (stepReport_about s.corridor.settings k (s.monitor.get k) x)
    ((s.applyStep k (stepReport s.corridor.settings k (s.monitor.get k) x)).setFlow
      (s.flow.report k (s.corridor.capacity.get k) s.corridor.settings.spillOccupancy y))
  rw [State.setFlow_notices, State.applyStep_notices] at step
  have flow := signals_takesReports (reportSignals_about
    (s.flow.report k (s.corridor.capacity.get k) s.corridor.settings.spillOccupancy y) k)
  refine .of_reports ?_ ?_ (step.append (flow _)) fun l => reportSignals_sameEvents _ k l
  · simp [State.deliverReport, State.applyStep]
  · simp [State.deliverReport, State.applyStep, tellTransition_transition]

/-! ### The frame on the line (R149 to R151) -/

section arrival
variable {s : State} {e : Exchange} {w : Sweep} {r : ReportBytes} {mode : LocalMode}

/-- A good frame of the expected kind from the exchange's junction, begun in the open window, is the reply (R151). -/
theorem checkFrame_reply (listening : Listening s e) (body : List Byte) :
    s.checkFrame { chars := frameChars e.address e.kind.reply body, tag := s.line.openWindow } =
      s.moment (·.endExchange (.reply body)) := by
  obtain ⟨-, exchange, opened, address, -, -⟩ := listening
  obtain ⟨n, window⟩ := Option.ne_none_iff_exists'.1 opened
  have kind : (u8 e.kind.reply).toNat = e.kind.reply := toNat_u8 (by cases e.kind <;> decide)
  simp [State.checkFrame, goodFrame_frameChars, Line.openWindow, exchange, window, State.classify, kind,
    toNat_u8 address]

/-- A report that echoes the sweep is delivered, and its slot leaves the sweep (R158, R176). -/
theorem endExchange_report (awaits : AwaitsReport s e w) (formed : r.Formed mode) :
    s.gather.endExchange (.reply (r.body (u8 w.sequence))) =
      ((s.gather.setLine s.line.endExchange).deliverReport e.slot (stepOf r mode) ⟨r.inbound, r.outbound⟩).setLine
        { s.line.endExchange with sweep := some { w with current := none } } := by
  obtain ⟨⟨⟨-, exchange, -⟩, poll, sweep, byte⟩, more⟩ := awaits
  have swept : s.line.endExchange.sweep = some w := sweep
  simp only [State.endExchange, State.gather_line, exchange, poll, State.pollOutcome, readCycleReport_body formed,
    State.setLine_line, swept, toNat_u8 byte, Option.any_some, beq_self_eq_true, if_true]
  rw [slotResolved_of_waiting (w := w) (by rw [State.deliverReport_line]; exact sweep) more, State.deliverReport_line]
  rfl

theorem exec_arrives (awaits : AwaitsReport s e w) (r : ReportBytes) (carrier : Bool) :
    exec (r.arrives e w.sequence carrier) s =
      .next ((s.moment (·.endExchange (.reply (r.body (u8 w.sequence))))).setLine
        { (s.moment (·.endExchange (.reply (r.body (u8 w.sequence))))).line with
          carrier := carrier, quietFor := none }) := by
  obtain ⟨⟨listening, poll, -⟩, -⟩ := awaits
  have reply := checkFrame_reply listening (r.body (u8 w.sequence))
  obtain ⟨awaiting, -, -, -, hunting, empty⟩ := listening
  have hears : s.line.hears = true := by simp [Line.hears, awaiting]
  have arrive := corridorChars_lineFrame hunting empty e.address e.kind.reply (r.body (u8 w.sequence))
    (by simp [ReportBytes.body, Config.longestBody])
  rw [reply, poll] at arrive
  simp only [exec, ReportBytes.arrives, execCorridorFrameReceived, hears, empty, if_true]
  exact congrArg (fun t : State => Host.Outcome.next (t.setLine { t.line with carrier := carrier, quietFor := none }))
    arrive

/-- A well-formed report that echoes the sweep has the effect of its step state's rule on its slot (R100, R176). -/
theorem arrives_hasEffect (awaits : AwaitsReport s e w) (formed : r.Formed mode) (carrier : Bool) :
    ∃ t, exec (r.arrives e w.sequence carrier) s = .next t ∧
      HasEffect s t e.slot (stepReport s.corridor.settings e.slot (s.monitor.get e.slot) (stepOf r mode)) := by
  have effect := deliverReport_hasEffect (s.gather.setLine s.line.endExchange) e.slot (stepOf r mode)
    ⟨r.inbound, r.outbound⟩
  have delivered : HasEffect s (s.gather.endExchange (.reply (r.body (u8 w.sequence)))) e.slot
      (stepReport s.corridor.settings e.slot (s.monitor.get e.slot) (stepOf r mode)) := by
    rw [endExchange_report awaits formed]
    exact (effect.since (s := s) rfl rfl rfl rfl).setLine _
  exact ⟨_, exec_arrives awaits r carrier, delivered.moment.setLine _⟩

end arrival

end Sys2Proof.Proofs.OffsetTransitions
end

section
/-! PROOFS. What a report does that is not judged by its offset, and what a judged one does (R91, R100 to R108). -/

namespace Sys2Proof.Proofs.OffsetTransitions

open Sys2Proof.Machine Sys2Proof.Claims

/-! ### The rules for a report that is not judged -/

section unjudged
variable {g : Settings} {k : Slot} {r : StepRecord} {m : Memory} {measured : Nat} {x : StepReport} {state : StepState}

theorem ruleOf_override (overridden : localOverride g x = true)
    (h : state = .absent ∨ state = .seeking ∨ state = .confirming ∨ state = .inStep) :
    ruleOf g k r m measured x state = toYielded k r := by
  rcases h with rfl | rfl | rfl | rfl
  all_goals exact if_pos overridden

theorem ruleOf_unjudged (stays : ¬ localOverride g x = true) (unjudged : m.command ≠ .run ∨ ∀ o, m.expected ≠ .valid o)
    (h : state = .seeking ∨ state = .confirming ∨ state = .inStep) :
    ruleOf g k r m measured x state = { record := r, signals := [], message := some (.resync measured) } := by
  have judgement := judge_unjudged unjudged g.tolerance measured x
  rcases h with rfl | rfl | rfl
  · simp only [ruleOf, reportSeeking, if_neg stays, judgement]
  · simp only [ruleOf, reportConfirming, if_neg stays, judgement]
  · simp only [ruleOf, reportInStep, if_neg stays, judgement]

theorem not_override_of_coordinated (h : x.mode = .coordinated) (g : Settings) : ¬ localOverride g x = true := by
  simp [localOverride, h]

theorem reportAbsent_retained {o : Nat} (coordinated : x.mode = .coordinated) (expected : m.expected = .retained o) :
    reportAbsent g k r m measured x =
      { record := { r with state := .seeking, run := 0, error := some (offsetError m measured o) }
        signals := stepChange k r.state .seeking .report ++
          if (offsetError m measured o).natAbs > g.tolerance then
            [.slotEvent k (.realigned o measured (offsetError m measured o))]
          else []
        message := some (.resync measured) } := by
  simp only [reportAbsent, if_neg (not_override_of_coordinated coordinated g), if_pos coordinated, expected]

theorem reportAbsent_not_retained (coordinated : x.mode = .coordinated) (fresh : ∀ o, m.expected ≠ .retained o) :
    reportAbsent g k r m measured x =
      { record := { r with state := .seeking, run := 0 }, signals := stepChange k r.state .seeking .report
        message := some (.resync measured) } := by
  cases expected : m.expected with
  | retained o => exact absurd expected (fresh o)
  | none =>
    simp only [reportAbsent, if_neg (not_override_of_coordinated coordinated g), if_pos coordinated, expected]
  | valid o =>
    simp only [reportAbsent, if_neg (not_override_of_coordinated coordinated g), if_pos coordinated, expected]

/-- The reports that do nothing beyond the common steps (R103). -/
theorem ruleOf_kept {s : State} {report : ReportBytes} {mode : LocalMode}
    (h : state = .released ∨ state = .excluded ∨ state = .startingFree ∨
      (state = .absent ∧ mode ≠ .coordinated ∧ ¬ Overrides s mode)) :
    ruleOf s.corridor.settings k r m measured (stepOf report mode) state = .keep r := by
  rcases h with rfl | rfl | rfl | ⟨rfl, elsewhere, stays⟩
  · rfl
  · rfl
  · rfl
  · rw [ruleOf, reportAbsent, if_neg (mt localOverride_iff.1 stays)]
    exact if_neg elsewhere

end unjudged

/-! ### Their effects on the part -/

section effects
variable {s t : State} {k : Slot} {r : StepRecord} {m : Memory} {measured : Nat} {x : StepReport} {g : Settings}

/-- An effect that reports one step-state change and no other leaves it latched (R112). -/
theorem HasEffect.stepChange_data {e : StepEffect} {old new : StepState} {cause : StepCause} (h : HasEffect s t k e)
    (signals : e.signals = stepChange k old new cause) (change : old ≠ new) :
    (t.notices.slots.get k).stepChange.data = some (.stepChange old new cause) := by
  rw [h.events.stepChange, signals, stepChange_of_ne change]
  rfl

/-- The local override takes the junction to Yielded with no resync (R108). -/
theorem HasEffect.yields (h : HasEffect s t k (toYielded k r)) (change : r.state ≠ .yielded) :
    t.monitor.get k = { r with state := .yielded, run := 0 } ∧ t.transition = s.transition ∧
      (t.notices.slots.get k).stepChange.data = some (.stepChange r.state .yielded .localMode) :=
  ⟨h.record, h.transition_of_silent rfl, h.stepChange_data rfl change⟩

/-- An Absent junction that returns is resynced and its change of state reported (R103). -/
theorem HasEffect.returns (h : HasEffect s t k (reportAbsent g k r m measured x)) (absent : r.state = .absent)
    (coordinated : x.mode = .coordinated) :
    Resynced s t k measured ∧
      (t.notices.slots.get k).stepChange.data = some (.stepChange .absent .seeking .report) := by
  by_cases kept : ∃ o, m.expected = .retained o
  · obtain ⟨o, expected⟩ := kept
    rw [reportAbsent_retained coordinated expected, absent] at h
    refine ⟨h.resynced rfl, ?_⟩
    rw [h.events.stepChange, stepChange_of_ne (by decide)]
    split <;> rfl
  · rw [reportAbsent_not_retained coordinated (not_exists.1 kept), absent] at h
    exact ⟨h.resynced rfl, h.stepChange_data rfl (by decide)⟩

/-- The return of a junction whose expected offset was retained is compared with M, and reported as REALIGNED above the
tolerance (R103, R119). -/
theorem HasEffect.realigns {o : Nat} (h : HasEffect s t k (reportAbsent g k r m measured x))
    (absent : r.state = .absent) (coordinated : x.mode = .coordinated) (expected : m.expected = .retained o) {err : Int}
    (error : offsetError m measured o = err) :
    t.monitor.get k = { r with state := .seeking, run := 0, error := some err } ∧
      (g.tolerance < err.natAbs → (t.notices.slots.get k).realigned.data = some (.realigned o measured err)) ∧
      (err.natAbs ≤ g.tolerance → (t.notices.slots.get k).realigned = (s.notices.slots.get k).realigned) := by
  rw [reportAbsent_retained coordinated expected, absent, stepChange_of_ne (by decide), error] at h
  refine ⟨h.record, fun far => ?_, fun near => ?_⟩
  · rw [h.events.realigned, if_pos far]
    rfl
  · rw [h.events.realigned, if_neg (Nat.not_lt.2 near)]
    rfl

theorem HasEffect.returnsFresh (h : HasEffect s t k (reportAbsent g k r m measured x)) (absent : r.state = .absent)
    (coordinated : x.mode = .coordinated) (fresh : ∀ o, m.expected ≠ .retained o) :
    t.monitor.get k = { r with state := .seeking, run := 0 } ∧
      (t.notices.slots.get k).realigned = (s.notices.slots.get k).realigned := by
  rw [reportAbsent_not_retained coordinated fresh, absent, stepChange_of_ne (by decide)] at h
  exact ⟨h.record, by rw [h.events.realigned]; rfl⟩

/-- A Yielded junction that reports Coordinated is Absent, and keeps its transition record (R108). -/
theorem HasEffect.yieldedReports (h : HasEffect s t k (reportYielded k r x)) :
    t.monitor.get k = (if x.mode = .coordinated then { r with state := .absent } else r) ∧
      t.transition = s.transition := by
  unfold reportYielded at h
  split at h
  case isTrue coordinated =>
    rw [if_pos coordinated]
    exact ⟨h.record, h.transition_of_silent rfl⟩
  case isFalse elsewhere =>
    rw [if_neg elsewhere]
    exact ⟨h.record, h.transition_of_silent rfl⟩

theorem HasEffect.keeps (h : HasEffect s t k (.keep r)) : t.monitor.get k = r ∧ t.transition = s.transition :=
  ⟨h.record, h.transition_of_silent rfl⟩

end effects

/-- Settles O53: the report has the effect of its state's rule on its slot, and each clause is one branch of a rule. -/
theorem unjudgedReportsAct : Obligations.UnjudgedReportsAct := by
  unfold Obligations.UnjudgedReportsAct
  rintro s e w m r mode carrier measured old taken awaits ⟨memory, cycle⟩ formed rfl rfl rfl
  obtain ⟨t, runs, effect⟩ := arrives_hasEffect awaits formed carrier
  rw [stepReport_eq memory] at effect
  refine ⟨t, runs, effect.onlySlot, fun overridden state => ?_, fun state coordinated => ?_,
    fun stays unjudged state => ?_, fun state => ?_, fun state => ?_⟩
  · have change : (s.monitor.get e.slot).state ≠ .yielded := by
      rcases state with state | state | state | state <;> simp [state]
    rw [ruleOf_override (localOverride_iff.2 overridden) state] at effect
    exact effect.yields change
  · rw [state] at effect
    obtain ⟨resynced, change⟩ := effect.returns state coordinated
    exact ⟨resynced, change,
      fun o err expected error => effect.realigns state coordinated expected (offsetError_of_isError cycle error),
      fun fresh => effect.returnsFresh state coordinated fresh⟩
  · rw [ruleOf_unjudged (mt localOverride_iff.1 stays) unjudged state] at effect
    exact ⟨effect.record, effect.resynced rfl⟩
  · rw [state] at effect
    exact effect.yieldedReports
  · rw [ruleOf_kept state] at effect
    exact effect.keeps

/-! ### The rules for a judged report -/

theorem slips_eq_count (w : List WindowOutcome) : slips w = w.count .slip := List.count_eq_length_filter.symm

section judged
variable {g : Settings} {k : Slot} {r : StepRecord} {m : Memory} {measured : Nat} {x : StepReport} {err : Int}
  {kind : Mismatch}

theorem reportSeeking_matched (stays : ¬ localOverride g x = true)
    (judgement : judge g.tolerance m measured x = .judged err none) :
    reportSeeking g k r m measured x =
      { record := { r with state := .confirming, run := 1, error := some err }
        signals := stepChange k r.state .confirming .matched, message := some (.resync measured) } := by
  simp only [reportSeeking, if_neg stays, judgement]

theorem reportConfirming_matched (stays : ¬ localOverride g x = true)
    (judgement : judge g.tolerance m measured x = .judged err none) :
    (reportConfirming g k r m measured x).record =
        (if g.confirmCount ≤ r.run + 1 then
          { r with state := .inStep, run := r.run + 1, window := [], failures := 0, error := some err }
        else { r with run := r.run + 1, error := some err }) ∧
      (reportConfirming g k r m measured x).message = some (.resync measured) := by
  simp only [reportConfirming, if_neg stays, judgement]
  split <;> exact ⟨rfl, rfl⟩

theorem ruleOf_mismatched (stays : ¬ localOverride g x = true)
    (judgement : judge g.tolerance m measured x = .judged err (some kind)) {state : StepState}
    (h : state = .seeking ∨ state = .confirming) :
    ruleOf g k r m measured x state = followFailure g k r err measured := by
  rcases h with rfl | rfl
  · simp only [ruleOf, reportSeeking, if_neg stays, judgement]
  · simp only [ruleOf, reportConfirming, if_neg stays, judgement]

theorem followFailure_spec :
    (followFailure g k r err measured).record =
        (if g.followLimit ≤ r.failures + 1 then
          { r with state := .excluded, run := 0, failures := r.failures + 1, cause := .follow, error := some err }
        else { r with state := .seeking, run := 0, failures := r.failures + 1, error := some err }) ∧
      (followFailure g k r err measured).message = some (.resync measured) := by
  simp only [followFailure]
  split <;> exact ⟨rfl, rfl⟩

theorem reportInStep_matched (stays : ¬ localOverride g x = true)
    (judgement : judge g.tolerance m measured x = .judged err none) :
    reportInStep g k r m measured x =
      { record := { r with window := joined g.slipWindow r.window .matched, error := some err }
        signals := [], message := some (.resync measured) } := by
  simp only [reportInStep, if_neg stays, judgement, joinWindow_eq_joined]

/-- A slip, which relocks at the second of the window while relock is on (R106, R107). -/
theorem reportInStep_slipped (stays : ¬ localOverride g x = true)
    (judgement : judge g.tolerance m measured x = .judged err (some kind)) {window : List WindowOutcome}
    (grown : window = joined g.slipWindow r.window .slip) :
    reportInStep g k r m measured x =
      if 2 ≤ window.count .slip ∧ g.relock = true then
        { record := { r with state := .seeking, run := 0, window := window, error := some err }
          signals := .slotEvent k (.slip err kind (window.count .slip)) :: stepChange k r.state .seeking .relock
          message := some (.resync measured) }
      else
        { record := { r with window := window, error := some err }
          signals := [.slotEvent k (.slip err kind (window.count .slip))], message := none } := by
  subst grown
  simp only [reportInStep, if_neg stays, judgement, joinWindow_eq_joined, slips_eq_count]

end judged

/-! ### Their effects on the part -/

section slip
variable {s t : State} {k : Slot} {r : StepRecord} {m : Memory} {measured : Nat} {x : StepReport} {g : Settings}
  {err : Int} {kind : Mismatch} {window : List WindowOutcome}

/-- A slip is reported with its kind and the slips of the window; it relocks, or changes the window alone (R106,
R107). -/
theorem HasEffect.slips (h : HasEffect s t k (reportInStep g k r m measured x)) (inStep : r.state = .inStep)
    (stays : ¬ localOverride g x = true) (judgement : judge g.tolerance m measured x = .judged err (some kind))
    (grown : window = joined g.slipWindow r.window .slip) :
    (t.notices.slots.get k).slip.data = some (.slip err kind (window.count .slip)) ∧
      (2 ≤ window.count .slip → g.relock = true →
        t.monitor.get k = { r with state := .seeking, run := 0, window := window, error := some err } ∧
          (t.notices.slots.get k).stepChange.data = some (.stepChange .inStep .seeking .relock) ∧
          Resynced s t k measured) ∧
      (¬ (2 ≤ window.count .slip ∧ g.relock = true) →
        t.monitor.get k = { r with window := window, error := some err } ∧ t.transition = s.transition) := by
  have change : r.state ≠ .seeking := by simp [inStep]
  rw [reportInStep_slipped stays judgement grown, stepChange_of_ne change] at h
  by_cases relocks : 2 ≤ window.count .slip ∧ g.relock = true
  · rw [if_pos relocks] at h
    exact ⟨by rw [h.events.slip]; rfl,
      fun _ _ => ⟨h.record, by rw [h.events.stepChange, ← inStep]; rfl, h.resynced rfl⟩, fun no => absurd relocks no⟩
  · rw [if_neg relocks] at h
    exact ⟨by rw [h.events.slip]; rfl, fun two on => absurd ⟨two, on⟩ relocks,
      fun _ => ⟨h.record, h.transition_of_silent rfl⟩⟩

end slip

/-- Settles O54: the report is judged with error `err`, and each clause is one branch of its state's rule. -/
theorem judgedReportsMoveTheJunction : Obligations.JudgedReportsMoveTheJunction := by
  unfold Obligations.JudgedReportsMoveTheJunction
  rintro s e w m r mode carrier o measured err old taken awaits ⟨memory, cycle⟩ formed command expected notOver rfl rfl
    error rfl
  have stays := mt (localOverride_iff (r := r)).1 notOver
  have judgement := judge_judged (s := s) (r := r) (mode := mode) cycle command expected error
  obtain ⟨t, runs, effect⟩ := arrives_hasEffect awaits formed carrier
  rw [stepReport_eq memory] at effect
  refine ⟨t, runs, effect.onlySlot, fun state matched => ?_, fun state matched => ?_, fun state mismatched => ?_,
    fun state matched => ?_, fun state mismatched => ?_⟩
  · rw [mismatchOf_of_matches matched] at judgement
    rw [state, ruleOf, reportSeeking_matched stays judgement] at effect
    exact ⟨effect.record, effect.resynced rfl⟩
  · rw [mismatchOf_of_matches matched] at judgement
    rw [state] at effect
    obtain ⟨record, message⟩ := reportConfirming_matched (k := e.slot) stays judgement
    exact ⟨effect.record.trans record, effect.resynced message⟩
  · rw [mismatchOf_of_not_matches mismatched] at judgement
    rw [ruleOf_mismatched stays judgement state] at effect
    obtain ⟨record, message⟩ := followFailure_spec
    exact ⟨effect.record.trans record, effect.resynced message⟩
  · rw [mismatchOf_of_matches matched] at judgement
    rw [state, ruleOf, reportInStep_matched stays judgement] at effect
    exact ⟨effect.record, effect.resynced rfl⟩
  · rw [mismatchOf_of_not_matches mismatched] at judgement
    rw [state] at effect
    exact ⟨_, rfl, effect.slips state stays judgement rfl⟩

end Sys2Proof.Proofs.OffsetTransitions
end

section
/-! PROOFS. INJECT SKEW: its checks in their order, and the pending skew that an accepted one stores (R115). -/

namespace Sys2Proof.Proofs.StepMonitoring

open Sys2Proof.Machine Sys2Proof.Claims Sys2Proof.Proofs.TimingPlans

section injectSkew
variable {s : State} {b hi lo : Byte} {k : Slot}

/-- An amount that INJECT SKEW does not take (R115). -/
def AmountOut (a : Int) : Prop := a < -400 ∨ 400 < a ∨ a = 0

theorem injectSkew_noSlot (hb : NoSlot b) : injectSkew [b, hi, lo] s = (.badValue 0, s) := by
  simp [injectSkew, slotArg_of_noSlot hb]

theorem injectSkew_amountOut (hb : IsSlot b k) (out : AmountOut (readI16 hi lo)) :
    injectSkew [b, hi, lo] s = (.badValue 1, s) := by
  simp only [injectSkew, slotArg_of_isSlot hb]
  exact if_pos out

/-- With a slot and an amount that are taken, the slot's own state decides. -/
theorem injectSkew_inRange (hb : IsSlot b k) (taken : ¬ AmountOut (readI16 hi lo)) :
    injectSkew [b, hi, lo] s =
      if !s.defined k then (.refuse .notDefined, s)
      else if s.corridor.state ≠ .running ∨ (s.monitor.get k).state ≠ .inStep then (.refuse .notInStep, s)
      else if (s.transition.pendingSkew k).isSome then (.refuse .injectPending, s)
      else
        (.ok [b, hi, lo],
          s.setTransition (s.transition.modifyRecord k fun r => { r with pendingSkew := some (readI16 hi lo) })) := by
  simp only [injectSkew, slotArg_of_isSlot hb]
  exact if_neg taken

theorem injectSkew_undefined (hb : IsSlot b k) (taken : ¬ AmountOut (readI16 hi lo))
    (hk : s.corridor.table.get k = none) : injectSkew [b, hi, lo] s = (.refuse .notDefined, s) := by
  simp [injectSkew_inRange hb taken, State.defined, hk]

theorem injectSkew_notInStep (hb : IsSlot b k) (taken : ¬ AmountOut (readI16 hi lo))
    (hk : s.corridor.table.get k ≠ none)
    (out : s.corridor.state ≠ .running ∨ (s.monitor.get k).state ≠ .inStep) :
    injectSkew [b, hi, lo] s = (.refuse .notInStep, s) := by
  simp [injectSkew_inRange hb taken, defined_iff.2 hk, out]

section inStep
variable {x : TransitionRecord} (hb : IsSlot b k) (taken : ¬ AmountOut (readI16 hi lo))
  (hk : s.corridor.table.get k ≠ none) (running : s.corridor.state = .running)
  (inStep : (s.monitor.get k).state = .inStep) (hx : s.transition.records.get k = some x)
include hb taken hk running inStep hx

theorem injectSkew_pending (standing : x.pendingSkew ≠ none) :
    injectSkew [b, hi, lo] s = (.refuse .injectPending, s) := by
  simp [injectSkew_inRange hb taken, defined_iff.2 hk, running, inStep, Transition.pendingSkew, hx,
    Option.isSome_iff_ne_none.2 standing]

theorem injectSkew_stores (free : x.pendingSkew = none) :
    injectSkew [b, hi, lo] s = (.ok [b, hi, lo], { s with
      transition := { s.transition with
        records := s.transition.records.set k (some { x with pendingSkew := some (readI16 hi lo) }) } }) := by
  simp [injectSkew_inRange hb taken, defined_iff.2 hk, running, inStep, Transition.pendingSkew, hx, free,
    Transition.modifyRecord, PerSlot.modify, State.setTransition]

end inStep

end injectSkew

theorem execInjectSkew_answers {s t : State} {r : Request} {b hi lo : Byte} {y : Reply}
    (head : s.AtHead 0x14 [b, hi, lo] r) (h : injectSkew [b, hi, lo] s = (y, t)) :
    exec .injectSkew s = .next { t with host := answered t.host r y.result y.content } :=
  serve_stores head h

/-- Settles O43: each check refuses before the next is made, and what is left stores the amount. -/
theorem injectSkewIsStored : Obligations.InjectSkewIsStored := by
  unfold Obligations.InjectSkewIsStored
  rintro s r b hi lo _ head rfl
  refine ⟨fun hb => execInjectSkew_answers head (injectSkew_noSlot hb),
    fun k hb out => execInjectSkew_answers head (injectSkew_amountOut hb out), fun k hb low high nonzero => ?_⟩
  have taken : ¬ AmountOut (readI16 hi lo) := by
    unfold AmountOut
    omega
  exact ⟨fun hk => execInjectSkew_answers head (injectSkew_undefined hb taken hk),
    fun hk out => execInjectSkew_answers head (injectSkew_notInStep hb taken hk out),
    fun x hk running inStep hx =>
      ⟨fun standing => execInjectSkew_answers head (injectSkew_pending hb taken hk running inStep hx standing),
        fun free => execInjectSkew_answers head (injectSkew_stores hb taken hk running inStep hx free)⟩⟩

end Sys2Proof.Proofs.StepMonitoring
end

section
/-! PROOFS. The arrival of the active plan at a junction, and an IMAGE ACK that is accepted (R118, R123, R130, R131,
R151, R177). -/

namespace Sys2Proof.Proofs.StepMonitoring

open Sys2Proof.Machine Sys2Proof.Claims Sys2Proof.Proofs.TimingPlans Sys2Proof.Proofs.OffsetTransitions

/-! ### The arrival of the active plan (R118) -/

/-- A junction that is Excluded for want of the active plan (R97, R118). -/
def AwaitsPlan (r : StepRecord) : Prop := r.state = .excluded ∧ r.cause = .plan

/-- The record of a junction that the arrival of the active plan has made Absent (R118). -/
def readmitted (r : StepRecord) : StepRecord := { r with state := .absent, cause := .none, failures := 0 }

/-- What STEP_CHANGE reports of a junction that the active plan readmits (R112, R118). -/
def readmission (k : Slot) : Signal := .slotEvent k (.stepChange .excluded .absent .plan)

theorem readmission_about (k : Slot) : IsAbout k (readmission k) := .inl ⟨_, rfl⟩

theorem not_awaitsPlan_readmitted (r : StepRecord) : ¬ AwaitsPlan (readmitted r) := fun h => nomatch h.1

theorem planArrived_of_awaits {s : State} {k : Slot} (h : AwaitsPlan (s.monitor.get k)) :
    s.planArrived k = { s with
      monitor := s.monitor.set k (readmitted (s.monitor.get k))
      notices := s.notices.signal s.stamp (readmission k) } := by
  refine (if_pos h).trans ?_
  rw [signals_stepChange, h.1]
  rfl

theorem planArrived_of_not_awaits {s : State} {k : Slot} (h : ¬ AwaitsPlan (s.monitor.get k)) :
    s.planArrived k = s := if_neg h

/-- STEP_CHANGE's latch holds the readmission once that has been reported (10.5, R112). -/
theorem stepChange_data_readmission (n : NoticeUnit) (q : NoticeStamp) (k : Slot) :
    ((n.signal q (readmission k)).slots.get k).stepChange.data = some (.stepChange .excluded .absent .plan) := by
  rw [(signal_takesReports (readmission_about k) n q).slots, PerSlot.get_set_self]
  rfl

/-! ### The feed of the transmit queue (R130) -/

/-- Where no frame may be queued, the feed changes nothing. -/
theorem feedOnce_of_queuesNoFrame {s : State} (h : QueuesNoFrame s) : s.feedOnce = none := by
  unfold State.feedOnce
  rcases h with closed | full | served
  · simp [closed]
  · simp [Config.downloadFeedSize, full]
  · have none_waits : s.directory.orders.find? (fun o => o.stage == .waiting) = none := by simpa using served
    simp [none_waits]

theorem feed_of_queuesNoFrame {s : State} (h : QueuesNoFrame s) : s.feed = s := by
  unfold State.feed
  cases s.directory.orders.length with
  | zero => rfl
  | succ n => simp [State.feedLoop, feedOnce_of_queuesNoFrame h]

/-! ### The completed download (R123, R131) -/

theorem use_eq_used (d : Directory) (x : DirSlot) : d.use x = used d x := by cases x <;> rfl

/-- The Directory Unit once the download of order `o` into slot `x` has been accepted (R131). -/
def completed (u : DirectoryUnit) (o : Order) (x : DirSlot) (mark : Bool) : DirectoryUnit :=
  { u with
    dirs := u.dirs.set o.slot
      (used ((u.dirs.get o.slot).set x (if mark then .stale o.plan else .valid o.plan)) x)
    orders := u.orders.filter fun y => !(decide (y.slot = o.slot ∧ y.plan = o.plan)) }

theorem isFor_eq_decide (y : Order) (k : Slot) (p : PlanNo) : y.isFor k p = decide (y.slot = k ∧ y.plan = p) := by
  simp [Order.isFor, Bool.beq_eq_decide_eq]

/-- The plan that a completed download brings is the active one of a Running corridor, Valid (R118). -/
def BringsActive (s : State) (o : Order) (mark : Bool) : Prop :=
  s.corridor.state = .running ∧ s.directory.active = some o.plan ∧ mark = false

section completeLoad
variable {s : State} {o : Order} {x : DirSlot} {mark : Bool} {prior : Content}

theorem completeLoad_loading (content : (s.directory.dirs.get o.slot).get x = .loading o.plan mark prior) :
    s.completeLoad o x =
      if s.corridor.state = .running ∧ s.directory.active = some o.plan ∧ !mark then
        (s.setDirectory (completed s.directory o x mark)).planArrived o.slot
      else s.setDirectory (completed s.directory o x mark) := by
  simp only [State.completeLoad, DirectoryUnit.removeOrder, content, if_true, PerSlot.modify, use_eq_used,
    isFor_eq_decide]
  rfl

/-- A junction that awaits the plan takes it as its readmission (R118). -/
theorem completeLoad_readmits (content : (s.directory.dirs.get o.slot).get x = .loading o.plan mark prior)
    (brings : BringsActive s o mark) (awaits : AwaitsPlan (s.monitor.get o.slot)) :
    s.completeLoad o x = { s with
      directory := completed s.directory o x mark
      monitor := s.monitor.set o.slot (readmitted (s.monitor.get o.slot))
      notices := s.notices.signal (s.setDirectory (completed s.directory o x mark)).stamp (readmission o.slot) } := by
  rw [completeLoad_loading content, if_pos (by simpa [BringsActive] using brings)]
  exact planArrived_of_awaits awaits

theorem completeLoad_quiet (content : (s.directory.dirs.get o.slot).get x = .loading o.plan mark prior)
    (quiet : ¬ (BringsActive s o mark ∧ AwaitsPlan (s.monitor.get o.slot))) :
    s.completeLoad o x = { s with directory := completed s.directory o x mark } := by
  rw [completeLoad_loading content]
  split
  · rename_i brings
    exact planArrived_of_not_awaits fun awaits => quiet ⟨by simpa [BringsActive] using brings, awaits⟩
  · rfl

/-- A completed download leaves no order Waiting that was not, nor the period or the queue other than they were. -/
theorem queuesNoFrame_completeLoad (content : (s.directory.dirs.get o.slot).get x = .loading o.plan mark prior)
    (none_queued : QueuesNoFrame s) : QueuesNoFrame (s.completeLoad o x) := by
  have orders : (s.completeLoad o x).directory = completed s.directory o x mark := by
    rw [completeLoad_loading content]
    split <;> simp
  rw [QueuesNoFrame, State.completeLoad_line, orders]
  exact none_queued.imp_right fun h => h.imp_right fun served y hy => served y ((List.mem_filter.1 hy).1)

end completeLoad

/-! ### The acknowledgement (R151, R177) -/

/-- A whole good frame of the kind that exchange `e` expects, heard in its open window, ends it as its reply (R149 to
R151). -/
theorem exec_reply {s : State} {e : Exchange} (listening : Listening s e) (body : List Byte)
    (short : body.length ≤ Config.longestBody) (carrier : Bool) :
    exec (.corridorFrameReceived (lineFrame e.address e.kind.reply body) carrier true) s =
      .next ((s.moment (·.endExchange (.reply body))).setLine
        { (s.moment (·.endExchange (.reply body))).line with carrier := carrier, quietFor := none }) := by
  have reply := checkFrame_reply listening body
  obtain ⟨awaiting, -, -, -, hunting, empty⟩ := listening
  have hears : s.line.hears = true := by simp [Line.hears, awaiting]
  have arrive := (corridorChars_lineFrame hunting empty e.address e.kind.reply body short).trans reply
  simp only [exec, execCorridorFrameReceived, hears, empty, if_true]
  exact congrArg (fun t : State => Host.Outcome.next (t.setLine { t.line with carrier := carrier, quietFor := none }))
    arrive

/-- The line once an exchange has ended over an empty receive buffer (R151). -/
theorem endExchange_of_empty {l : Line} (hunting : l.assembly = none) (empty : l.unchecked = []) :
    l.endExchange = { l with exchange := none, transmitter := .free, txChars := [] } := by
  simp [Line.endExchange, hunting, empty]

/-- The exchange `e` in progress is that of order `o`, whose frame loads slot `x` (R130, R153). -/
structure Loads (s : State) (e : Exchange) (o : Order) (x : DirSlot) (mark : Bool) (prior : Content) : Prop where
  exchange : s.line.exchange = some e
  download : e.kind = .download
  order : (s.directory.orders.find? fun y => y.slot == e.slot && y.stage == .onLine) = some o
  target : o.target = some x
  content : (s.directory.dirs.get e.slot).get x = .loading o.plan mark prior

section Loads
variable {s : State} {e : Exchange} {o : Order} {x : DirSlot} {mark : Bool} {prior : Content}

theorem Loads.slot (h : Loads s e o x mark prior) : o.slot = e.slot := by
  have found := List.find?_some h.order
  simp only [Bool.and_eq_true, beq_iff_eq] at found
  exact found.1

theorem Loads.content_at_order (h : Loads s e o x mark prior) :
    (s.directory.dirs.get o.slot).get x = .loading o.plan mark prior := by
  rw [h.slot]
  exact h.content

theorem Loads.gather (h : Loads s e o x mark prior) : Loads s.gather e o x mark prior :=
  ⟨h.exchange, h.download, h.order, h.target, h.content⟩

theorem num_dirSlot_lt (x : DirSlot) : x.num < 256 := by cases x <;> decide

/-- An acknowledgement of the frame's own slot and plan is an acceptance (R131, R177). -/
theorem Loads.endExchange_accepted (h : Loads s e o x mark prior) (none_queued : QueuesNoFrame s) :
    s.endExchange (.reply [0, u8 x.num, u8 o.plan.num]) = (s.setLine s.line.endExchange).completeLoad o x := by
  have slotByte : (u8 x.num).toNat = x.num := toNat_u8 (num_dirSlot_lt x)
  have planByte : (u8 o.plan.num).toNat = o.plan.num := toNat_u8 (by have := num_plan_range o.plan; omega)
  simp only [State.endExchange, h.exchange, h.download, State.downloadOutcome, State.ackOutcome, State.resolveLoad,
    State.setLine_directory, h.order, h.target, Option.map_some, slotByte, planByte, and_self, if_true]
  exact feed_of_queuesNoFrame (queuesNoFrame_completeLoad h.content_at_order none_queued)

/-- The junction of order `o` awaits the active plan, which its download brings (R118). -/
def Readmits (s : State) (o : Order) (mark : Bool) : Prop := BringsActive s o mark ∧ AwaitsPlan (s.monitor.get o.slot)

/-- What an accepted acknowledgement leaves of the part, the Step Monitor and the Notice Unit being as given. -/
def acknowledged (s : State) (o : Order) (x : DirSlot) (mark carrier : Bool) (monitor : PerSlot StepRecord)
    (notices : NoticeUnit) (free : Nat) : State :=
  { s with
    directory := completed s.directory o x mark
    line := { s.line with
      exchange := none, transmitter := .free, txChars := [], carrier := carrier, quietFor := none }
    monitor := monitor, notices := notices, free := free }

/-- The acknowledgement ends the exchange at one moment: the download is completed, and its junction is readmitted or
the Step Monitor and the Notice Unit stay (R118, R131, R191). -/
theorem Loads.moment_accepted (h : Loads s e o x mark prior) (none_queued : QueuesNoFrame s) :
    ∃ monitor notices free, s.moment (·.endExchange (.reply [0, u8 x.num, u8 o.plan.num])) =
        { s with
          directory := completed s.directory o x mark, line := s.line.endExchange
          monitor := monitor, notices := notices, free := free } ∧
      (Readmits s o mark → monitor = s.monitor.set o.slot (readmitted (s.monitor.get o.slot)) ∧
        (notices.slots.get o.slot).stepChange.data = some (.stepChange .excluded .absent .plan)) ∧
      (¬ Readmits s o mark → monitor = s.monitor ∧ notices = s.notices) := by
  have ends := h.gather.endExchange_accepted none_queued
  by_cases readmits : Readmits s o mark
  · have ends := ends.trans (completeLoad_readmits h.content_at_order readmits.1 readmits.2)
    have leaves := moment_eq (f := (·.endExchange (.reply [0, u8 x.num, u8 o.plan.num]))) ends
    refine ⟨_, _, _, leaves, fun _ => ⟨rfl, ?_⟩, fun quiet => absurd readmits quiet⟩
    rw [(State.moment_latches _ s).1, ends]
    exact stepChange_data_readmission _ _ _
  · have ends := ends.trans (completeLoad_quiet h.content_at_order readmits)
    have leaves := moment_eq (f := (·.endExchange (.reply [0, u8 x.num, u8 o.plan.num]))) ends
    refine ⟨_, _, _, leaves, fun h => absurd h readmits, fun _ => ⟨rfl, moment_notices_of_quiet ?_⟩⟩
    rw [ends]
    rfl

theorem Loads.exec_accepted (h : Loads s e o x mark prior) (listening : Listening s e) (none_queued : QueuesNoFrame s)
    (carrier : Bool) :
    ∃ monitor notices free, exec (.corridorFrameReceived
        (lineFrame e.address 0x83 [0, u8 x.num, u8 o.plan.num]) carrier true) s =
          .next (acknowledged s o x mark carrier monitor notices free) ∧
      (Readmits s o mark → monitor = s.monitor.set o.slot (readmitted (s.monitor.get o.slot)) ∧
        (notices.slots.get o.slot).stepChange.data = some (.stepChange .excluded .absent .plan)) ∧
      (¬ Readmits s o mark → monitor = s.monitor ∧ notices = s.notices) := by
  obtain ⟨monitor, notices, free, leaves, said⟩ := h.moment_accepted none_queued
  have arrive := exec_reply listening [0, u8 x.num, u8 o.plan.num] (by simp [Config.longestBody]) carrier
  obtain ⟨-, -, -, -, hunting, empty⟩ := listening
  rw [leaves, endExchange_of_empty hunting empty, h.download] at arrive
  exact ⟨monitor, notices, free, arrive, said⟩

end Loads

/-- Settles O34: the acknowledgement completes the load, and the arrival of the active plan decides the rest. -/
theorem imageAckCompletesTheDownload : Obligations.ImageAckCompletesTheDownload := by
  unfold Obligations.ImageAckCompletesTheDownload
  intro s e o x mark prior carrier listening download none_queued order target content
  have loads : Loads s e o x mark prior := ⟨listening.2.1, download, order, target, content⟩
  obtain ⟨monitor, notices, free, answers, readmits, quiet⟩ := loads.exec_accepted listening none_queued carrier
  rw [Readmits, loads.slot] at readmits quiet
  refine ⟨_, answers, rfl, fun k hk => ?_, ?_, rfl,
    fun running active fresh excluded plan => readmits ⟨⟨running, active, fresh⟩, excluded, plan⟩,
    fun stays => quiet fun ⟨⟨running, active, fresh⟩, excluded, plan⟩ =>
      stays ⟨running, active, fresh, excluded, plan⟩⟩
  · exact PerSlot.get_set_ne _ (loads.slot ▸ hk) _
  · simp only [acknowledged, completed, loads.slot, PerSlot.get_set_self]

end Sys2Proof.Proofs.StepMonitoring
end

section
/-! PROOFS. The withdrawal of downloads, and what the feed of the transmit queue leaves of the orders and the line
(R128, R130, R133). -/

namespace Sys2Proof.Proofs.StepMonitoring

open Sys2Proof.Machine Sys2Proof.Claims Sys2Proof.Proofs.TimingPlans Sys2Proof.Proofs.OffsetTransitions

/-! ### One withdrawal (R133) -/

/-- The line as it was, but for its transmit queue. -/
def QueueAlone (l l' : Line) : Prop := l' = { l with queue := l'.queue }

theorem QueueAlone.refl (l : Line) : QueueAlone l l := rfl

theorem QueueAlone.trans {l l' l'' : Line} (h : QueueAlone l l') (h' : QueueAlone l' l'') : QueueAlone l l'' := by
  unfold QueueAlone at *
  rw [h', h]

section withdraw
variable (s : State) (o : Order)

theorem withdraw_orders :
    (s.withdraw o).directory.orders = s.directory.orders.filter fun y => !y.isFor o.slot o.plan := by
  unfold State.withdraw
  dsimp only
  split
  · rfl
  · split
    · split <;> rfl
    all_goals rfl

theorem withdraw_line : QueueAlone s.line (s.withdraw o).line := rfl

variable {s o}

/-- All that a withdrawal can do to the directories: nothing, or one content set, that of the order's target. -/
theorem withdraw_dirs (s : State) (o : Order) :
    (s.withdraw o).directory.dirs = s.directory.dirs ∨ ∃ x c, o.target = some x ∧
      (s.withdraw o).directory.dirs = s.directory.dirs.set o.slot ((s.directory.dirs.get o.slot).set x c) := by
  unfold State.withdraw
  dsimp only
  split
  · exact .inl rfl
  · rename_i x target
    split
    · split
      · exact .inr ⟨x, _, target, rfl⟩
      · exact .inl rfl
    all_goals exact .inl rfl

theorem withdraw_dirs_of_ne {k : Slot} (h : o.slot ≠ k) :
    (s.withdraw o).directory.dirs.get k = s.directory.dirs.get k := by
  rcases withdraw_dirs s o with same | ⟨x, c, -, dirs⟩
  · rw [same]
  · rw [dirs, PerSlot.get_set_ne _ h.symm]

theorem withdraw_get_of_ne {k : Slot} {x : DirSlot} (h : ¬ (o.slot = k ∧ o.target = some x)) :
    ((s.withdraw o).directory.dirs.get k).get x = (s.directory.dirs.get k).get x := by
  by_cases slot : o.slot = k
  · subst slot
    rcases withdraw_dirs s o with same | ⟨y, c, target, dirs⟩
    · rw [same]
    · rw [dirs, PerSlot.get_set_self, Directory.get_set_ne _ (by rintro rfl; exact h ⟨rfl, target⟩)]
  · rw [withdraw_dirs_of_ne slot]

/-- Prior content comes back exactly when no frame was sent and no other slot holds its plan. -/
theorem restored_eq (d : Directory) (x : DirSlot) (o : Order) (q : PlanNo) (back : SlotContent) :
    (if o.neverSent then
        if DirSlot.all.any fun y => y != x && (d.get y).plan == some q then .empty else back
      else .empty) =
      if o.attempts = 1 ∧ o.stage = .queued ∧ ∀ y ∈ DirSlot.all, y ≠ x → (d.get y).plan ≠ some q then back
      else SlotContent.empty := by
  have unsent : o.neverSent = true ↔ o.attempts = 1 ∧ o.stage = .queued := by simp [Order.neverSent]
  have elsewhere : (DirSlot.all.any fun y => y != x && (d.get y).plan == some q) = true ↔
      ¬ ∀ y ∈ DirSlot.all, y ≠ x → (d.get y).plan ≠ some q := by simp
  by_cases never : o.neverSent = true
  · obtain ⟨attempts, stage⟩ := unsent.1 never
    rw [if_pos never]
    by_cases held : (DirSlot.all.any fun y => y != x && (d.get y).plan == some q) = true
    · rw [if_pos held, if_neg fun ⟨_, _, free⟩ => elsewhere.1 held free]
    · rw [if_neg held, if_pos ⟨attempts, stage, Classical.not_not.1 (mt elsewhere.2 held)⟩]
  · rw [if_neg never, if_neg fun ⟨attempts, stage, _⟩ => never (unsent.2 ⟨attempts, stage⟩)]

theorem afterWithdrawal_eq (d : Directory) (x : DirSlot) (o : Order) (prior : Content) :
    d.afterWithdrawal x o.neverSent prior = withdrawnSlot d x o prior := by
  cases prior with
  | empty => simp [Directory.afterWithdrawal, withdrawnSlot, Content.plan]
  | valid q => exact restored_eq d x o q (.valid q)
  | stale q => exact restored_eq d x o q (.stale q)

/-- The target that still loads the order's plan takes its prior content back, or becomes Empty. -/
theorem withdraw_target {x : DirSlot} {mark : Bool} {prior : Content} (target : o.target = some x)
    (content : (s.directory.dirs.get o.slot).get x = .loading o.plan mark prior) :
    ((s.withdraw o).directory.dirs.get o.slot).get x = withdrawnSlot (s.directory.dirs.get o.slot) x o prior := by
  simp only [State.withdraw, target, DirectoryUnit.removeOrder, content, if_true, DirectoryUnit.setSlot, PerSlot.modify,
    State.setLine_directory, State.setDirectory_directory, PerSlot.get_set_self, Directory.get_set_self]
  exact afterWithdrawal_eq _ _ _ _

end withdraw

/-! ### Several withdrawals (R133) -/

/-- The orders that `which` picks and that are not On line. -/
def withdrawnOrders (s : State) (which : Order → Bool) : List Order :=
  s.directory.orders.filter fun o => which o && !(o.stage == .onLine)

/-- The picked orders that are not On line are withdrawn, and those that are left are not to be retried. -/
theorem withdrawAll_eq (s : State) (which : Order → Bool) :
    s.withdrawAll which =
      ((withdrawnOrders s which).foldl State.withdraw s).setDirectory
        { ((withdrawnOrders s which).foldl State.withdraw s).directory with
          orders := ((withdrawnOrders s which).foldl State.withdraw s).directory.orders.map fun o =>
            if which o then { o with noRetry := true } else o } := by
  rw [withdrawnOrders, List.foldl_filter]
  rfl

section foldl
variable (s : State)

theorem foldl_withdraw_orders (l : List Order) :
    (l.foldl State.withdraw s).directory.orders =
      s.directory.orders.filter fun y => !l.any fun o => y.isFor o.slot o.plan := by
  induction l generalizing s with
  | nil => exact (List.filter_eq_self.2 fun _ _ => rfl).symm
  | cons o l ih => simp [ih, withdraw_orders, List.filter_filter, Bool.and_comm]

theorem foldl_withdraw_line (l : List Order) : QueueAlone s.line (l.foldl State.withdraw s).line :=
  foldl_invariant (fun t => QueueAlone s.line t.line) _ (fun t o h => h.trans (withdraw_line t o)) l s (.refl _)

variable {s}

theorem foldl_withdraw_get {k : Slot} {x : DirSlot} {l : List Order}
    (h : ∀ o ∈ l, ¬ (o.slot = k ∧ o.target = some x)) :
    ((l.foldl State.withdraw s).directory.dirs.get k).get x = (s.directory.dirs.get k).get x := by
  induction l generalizing s with
  | nil => rfl
  | cons o l ih =>
    obtain ⟨head, tail⟩ := List.forall_mem_cons.1 h
    exact (ih tail).trans (withdraw_get_of_ne head)

/-- With one withdrawn order at each junction, none disturbs the target of another. -/
theorem foldl_withdraw_target {l : List Order} (apart : l.Pairwise fun a b => a.slot ≠ b.slot) {o : Order} (ho : o ∈ l)
    {x : DirSlot} {mark : Bool} {prior : Content} (target : o.target = some x)
    (content : (s.directory.dirs.get o.slot).get x = .loading o.plan mark prior) :
    ((l.foldl State.withdraw s).directory.dirs.get o.slot).get x =
      withdrawnSlot (s.directory.dirs.get o.slot) x o prior := by
  induction l generalizing s with
  | nil => exact absurd ho List.not_mem_nil
  | cons a l ih =>
    obtain ⟨head, tail⟩ := List.pairwise_cons.1 apart
    rcases List.mem_cons.1 ho with rfl | rest
    · exact (foldl_withdraw_get fun b hb same => head b hb same.1.symm).trans (withdraw_target target content)
    · have dirs := withdraw_dirs_of_ne (s := s) (head o rest)
      have later := ih tail rest (s := s.withdraw a) (by rw [dirs]; exact content)
      rw [dirs] at later
      exact later

end foldl

/-! ### The feed of the transmit queue (R130) -/

/-- What every queued frame keeps true, the feed keeps true. -/
theorem feed_invariant (P : State → Prop) (step : ∀ s t, s.feedOnce = some t → P s → P t) {s : State} (h : P s) :
    P s.feed := by
  unfold State.feed
  generalize s.directory.orders.length = n
  induction n generalizing s with
  | zero => exact h
  | succ n ih =>
    unfold State.feedLoop
    split
    · exact h
    · exact ih (step _ _ ‹_› h)

theorem giveUp_line (s : State) (k : Slot) (p : PlanNo) (x : DirSlot) : QueueAlone s.line (s.giveUp k p x).line := by
  unfold State.giveUp
  split
  · split <;> rfl
  all_goals rfl

theorem giveUp_orders_subset (s : State) (k : Slot) (p : PlanNo) (x : DirSlot) :
    ∀ y ∈ (s.giveUp k p x).directory.orders, y ∈ s.directory.orders := by
  unfold State.giveUp
  split
  · split
    · exact fun y => id
    · exact fun y hy => (List.mem_filter.1 hy).1
  all_goals exact fun y => id

/-- Every order once a frame of `o` has been queued is one that stood before, or one for its plan. -/
theorem queueFrame_orders (s : State) (o : Order) (x : DirSlot) (c : LoadContent) :
    ∀ y ∈ (s.queueFrame o x c).directory.orders, y ∈ s.directory.orders ∨ y.plan = o.plan := by
  intro y hy
  obtain ⟨z, hz, rfl⟩ := List.mem_map.1 hy
  split
  · rename_i same
    simp only [isFor_eq_decide, decide_eq_true_eq] at same
    exact .inr same.2
  · exact .inl hz

/-- All that a round of the feed can do to the orders and the line: a Waiting order is taken, only orders for its plan
change, and of the line only the transmit queue does (R128, R130). -/
theorem feedOnce_next {s t : State} (h : s.feedOnce = some t) :
    QueueAlone s.line t.line ∧ ∃ o ∈ s.directory.orders, o.stage = .waiting ∧
      ∀ y ∈ t.directory.orders, y ∈ s.directory.orders ∨ y.plan = o.plan := by
  unfold State.feedOnce at h
  split at h
  · cases h
  · split at h
    · cases h
    · rename_i o found
      have ho := List.mem_of_find?_eq_some found
      have waits : o.stage = .waiting := by simpa using List.find?_some found
      split at h
      · rename_i x _
        split at h <;> cases h
        · exact ⟨rfl, o, ho, waits, queueFrame_orders s o x _⟩
        · refine ⟨(giveUp_line s o.slot o.plan x).trans rfl, o, ho, waits, fun y hy => ?_⟩
          exact (queueFrame_orders _ o x _ y hy).imp_left (giveUp_orders_subset s o.slot o.plan x y)
      · split at h <;> cases h
        exact ⟨rfl, o, ho, waits, fun y hy => .inl ((List.mem_filter.1 hy).1)⟩

theorem feed_line (s : State) : QueueAlone s.line s.feed.line :=
  feed_invariant (fun t => QueueAlone s.line t.line) (fun _ _ h kept => kept.trans (feedOnce_next h).1) (.refl _)

/-- Every order for plan `p` is On line and not to be retried. -/
def LeftOnLine (p : PlanNo) (orders : List Order) : Prop :=
  ∀ o ∈ orders, o.plan = p → o.stage = .onLine ∧ o.noRetry = true

/-- The feed takes Waiting orders alone, so that it leaves the orders of a cancelled plan. -/
theorem feed_leftOnLine {s : State} {p : PlanNo} (h : LeftOnLine p s.directory.orders) :
    LeftOnLine p s.feed.directory.orders := by
  refine feed_invariant (fun t => LeftOnLine p t.directory.orders) (fun s t fed kept y hy plan => ?_) h
  obtain ⟨-, o, ho, waits, orders⟩ := feedOnce_next fed
  rcases orders y hy with stood | same
  · exact kept y stood plan
  · have sent := (kept o ho (same.symm.trans plan)).1
    rw [waits] at sent
    cases sent

end Sys2Proof.Proofs.StepMonitoring
end

section
/-! PROOFS. SWITCH PLAN 0: the withdrawal of the pending plan's downloads, and the junctions that the active plan
readmits when it comes back (R118, R133, R136). -/

namespace Sys2Proof.Proofs.StepMonitoring

open Sys2Proof.Machine Sys2Proof.Claims Sys2Proof.Proofs.TimingPlans Sys2Proof.Proofs.OffsetTransitions

/-! ### The active plan arrives at several junctions (R118) -/

theorem keptAt_trans {s t u : State} {k : Slot} (h : KeptAt s t k) (h' : KeptAt t u k) : KeptAt s u k := by
  obtain ⟨monitor, records, slots⟩ := h
  obtain ⟨monitor', records', slots'⟩ := h'
  exact ⟨monitor'.trans monitor, records'.trans records, slots'.trans slots⟩

theorem planArrived_keeps {s : State} {j k : Slot} (h : j = k → ¬ AwaitsPlan (s.monitor.get j)) :
    KeptAt s (s.planArrived j) k := by
  by_cases awaits : AwaitsPlan (s.monitor.get j)
  · have other : k ≠ j := fun same => h same.symm awaits
    rw [planArrived_of_awaits awaits]
    refine ⟨PerSlot.get_set_ne _ other _, rfl, ?_⟩
    rw [(signal_takesReports (readmission_about j) s.notices s.stamp).slots, PerSlot.get_set_ne _ other]
  · rw [planArrived_of_not_awaits awaits]
    exact ⟨rfl, rfl, rfl⟩

/-- A junction that is not told, or does not await the plan, stays as it is. -/
theorem foldl_planArrived_keeps {k : Slot} {l : List Slot} {s : State}
    (h : k ∈ l → ¬ AwaitsPlan (s.monitor.get k)) : KeptAt s (l.foldl State.planArrived s) k := by
  induction l generalizing s with
  | nil => exact ⟨rfl, rfl, rfl⟩
  | cons j l ih =>
    have kept : KeptAt s (s.planArrived j) k := planArrived_keeps (by rintro rfl; exact h List.mem_cons_self)
    refine keptAt_trans kept (ih fun later => ?_)
    rw [kept.1]
    exact h (List.mem_cons_of_mem _ later)

/-- From `s` to `t` junction `k` has been readmitted, with its STEP_CHANGE (R112, R118). -/
def ReadmittedAt (s t : State) (k : Slot) : Prop :=
  t.monitor.get k = readmitted (s.monitor.get k) ∧
    (t.notices.slots.get k).stepChange.data = some (.stepChange .excluded .absent .plan)

/-- A junction that is told and awaits the plan is readmitted. -/
theorem foldl_planArrived_readmits {k : Slot} {l : List Slot} {s : State} (hk : k ∈ l)
    (awaits : AwaitsPlan (s.monitor.get k)) : ReadmittedAt s (l.foldl State.planArrived s) k := by
  induction l generalizing s with
  | nil => exact absurd hk List.not_mem_nil
  | cons j l ih =>
    by_cases same : j = k
    · subst same
      have told := planArrived_of_awaits awaits
      have record : (s.planArrived j).monitor.get j = readmitted (s.monitor.get j) := by
        rw [told]
        exact PerSlot.get_set_self _ _ _
      obtain ⟨monitor, -, slots⟩ : KeptAt (s.planArrived j) (l.foldl State.planArrived (s.planArrived j)) j :=
        foldl_planArrived_keeps fun _ => by
          rw [record]
          exact not_awaitsPlan_readmitted _
      refine ⟨monitor.trans record, ?_⟩
      rw [List.foldl_cons, slots, told]
      exact stepChange_data_readmission _ _ _
    · obtain ⟨monitor, -, -⟩ : KeptAt s (s.planArrived j) k := planArrived_keeps fun h => absurd h same
      have rest := ih ((List.mem_cons.1 hk).resolve_left fun h => same h.symm)
        (s := s.planArrived j) (by rw [monitor]; exact awaits)
      rw [ReadmittedAt, monitor] at rest
      exact rest

theorem lacks_iff {s : State} {k : Slot} {p : PlanNo} : s.directory.lacks k p = true ↔ ¬ HoldsValid s k p := by
  rw [HoldsValid, ← holdsValid_isSome]
  simp [DirectoryUnit.lacks]

theorem lacks_eq_false_iff {s : State} {k : Slot} {p : PlanNo} :
    s.directory.lacks k p = false ↔ HoldsValid s k p := by
  rw [← Bool.not_eq_true, lacks_iff, Classical.not_not]

/-- From `s` to `t` the active plan has become Valid at junction `k` (R118). -/
def ArrivesAt (s t : State) (k : Slot) : Prop :=
  ∃ q, s.directory.active = some q ∧ ¬ HoldsValid s k q ∧ HoldsValid t k q

theorem arrivesAt_congr {s t u : State} (h : t.directory = u.directory) (k : Slot) :
    ArrivesAt s t k ↔ ArrivesAt s u k := by
  simp only [ArrivesAt, HoldsValid, h]

/-- The junctions told are those at which the active plan has become Valid. -/
theorem tellArrivals_eq {s t : State} (active : t.directory.active = s.directory.active) :
    ∃ l : List Slot, t.tellArrivals s.directory = l.foldl State.planArrived t ∧ ∀ k, k ∈ l ↔ ArrivesAt s t k := by
  unfold State.tellArrivals ArrivesAt
  rw [active]
  cases s.directory.active with
  | none => exact ⟨[], rfl, by simp⟩
  | some p =>
    refine ⟨Slot.all.filter fun k => s.directory.lacks k p && !t.directory.lacks k p, ?_, fun k => ?_⟩
    · rw [List.foldl_filter]
    · simp [lacks_iff, lacks_eq_false_iff]

/-! ### What is left of a cancelled plan (R133, R136) -/

/-- The part once the pending plan `p` is pending no more and its orders are withdrawn. -/
def cancelled (s : State) (p : PlanNo) : State :=
  (s.setDirectory { s.directory with pending := none, deadline := 0 }).withdrawAll fun o => o.plan == p

/-- The orders that a cancel of plan `p` withdraws (R133, R136). -/
def toWithdraw (s : State) (p : PlanNo) : List Order :=
  s.directory.orders.filter fun o => o.plan == p && !(o.stage == .onLine)

/-- An order of plan `p` that stays is not to be retried (R133). -/
def notRetried (p : PlanNo) (o : Order) : Order := if o.plan = p then { o with noRetry := true } else o

theorem mem_toWithdraw {s : State} {p : PlanNo} {o : Order} :
    o ∈ toWithdraw s p ↔ o ∈ s.directory.orders ∧ o.plan = p ∧ o.stage ≠ .onLine := by
  simp [toWithdraw]

/-- An order is the only one for its junction and plan (R129). -/
theorem eq_of_isFor {l : List Order} (unique : l.Pairwise fun a b => ¬ (a.slot = b.slot ∧ a.plan = b.plan))
    {y o : Order} (hy : y ∈ l) (ho : o ∈ l) (same : y.isFor o.slot o.plan = true) : y = o := by
  rw [isFor_eq_decide, decide_eq_true_eq] at same
  induction l with
  | nil => exact absurd hy List.not_mem_nil
  | cons a l ih =>
    obtain ⟨apart, rest⟩ := List.pairwise_cons.1 unique
    rcases List.mem_cons.1 hy with rfl | later
    · rcases List.mem_cons.1 ho with rfl | other
      · rfl
      · exact absurd same (apart o other)
    · rcases List.mem_cons.1 ho with rfl | other
      · exact absurd ⟨same.1.symm, same.2.symm⟩ (apart y later)
      · exact ih rest later other

section cancelled
variable {s : State} {p : PlanNo}

theorem cancelled_plan : (cancelled s p).plan = (s.directory.active, none, 0) := State.withdrawAll_plan _ _

theorem cancelled_line : QueueAlone s.line (cancelled s p).line := by
  rw [cancelled, withdrawAll_eq]
  exact foldl_withdraw_line (s.setDirectory _) _

theorem cancelled_dirs :
    (cancelled s p).directory.dirs =
      ((toWithdraw s p).foldl State.withdraw
        (s.setDirectory { s.directory with pending := none, deadline := 0 })).directory.dirs := by
  rw [cancelled, withdrawAll_eq]
  rfl

theorem cancelled_orders_eq :
    (cancelled s p).directory.orders =
      (s.directory.orders.filter fun y => !(toWithdraw s p).any fun o => y.isFor o.slot o.plan).map (notRetried p) := by
  rw [cancelled, withdrawAll_eq]
  simp only [State.setDirectory_directory, foldl_withdraw_orders, beq_iff_eq]
  rfl

/-- Whatever stays of the plan's orders is On line and not to be retried. -/
theorem cancelled_leftOnLine : LeftOnLine p (cancelled s p).directory.orders := by
  intro o ho plan
  rw [cancelled_orders_eq] at ho
  obtain ⟨y, hy, rfl⟩ := List.mem_map.1 ho
  obtain ⟨stood, stays⟩ := List.mem_filter.1 hy
  have ofPlan : y.plan = p := by
    unfold notRetried at plan
    split at plan
    · assumption
    · exact plan
  rw [notRetried, if_pos ofPlan]
  refine ⟨Classical.byContradiction fun offLine => ?_, rfl⟩
  have withdrawn : (toWithdraw s p).any (fun o => y.isFor o.slot o.plan) = true :=
    List.any_eq_true.2 ⟨y, mem_toWithdraw.2 ⟨stood, ofPlan, offLine⟩, by simp [Order.isFor]⟩
  simp [withdrawn] at stays

/-- With one order for each junction and plan, exactly the plan's orders that are not On line leave the list. -/
theorem cancelled_orders (unique : s.directory.orders.Pairwise fun a b => ¬ (a.slot = b.slot ∧ a.plan = b.plan)) :
    (cancelled s p).directory.orders =
      (s.directory.orders.filter fun o => o.plan != p || o.stage == .onLine).map (notRetried p) := by
  rw [cancelled_orders_eq]
  refine congrArg (List.map _) (List.filter_congr fun y hy => ?_)
  have leaves : (toWithdraw s p).any (fun o => y.isFor o.slot o.plan) = true ↔ y.plan = p ∧ y.stage ≠ .onLine := by
    rw [List.any_eq_true]
    constructor
    · rintro ⟨o, ho, same⟩
      obtain ⟨stands, plan, offLine⟩ := mem_toWithdraw.1 ho
      rw [eq_of_isFor unique hy stands same]
      exact ⟨plan, offLine⟩
    · rintro ⟨plan, offLine⟩
      exact ⟨y, mem_toWithdraw.2 ⟨hy, plan, offLine⟩, by simp [Order.isFor]⟩
  rw [Bool.eq_iff_iff, Bool.not_eq_true', ← Bool.not_eq_true, leaves]
  simp [Decidable.imp_iff_not_or]

theorem cancelled_get_of_ne {k : Slot} {x : DirSlot}
    (h : ∀ o ∈ s.directory.orders, o.plan = p → o.stage ≠ .onLine → o.slot = k → o.target ≠ some x) :
    ((cancelled s p).directory.dirs.get k).get x = (s.directory.dirs.get k).get x := by
  rw [cancelled_dirs]
  refine foldl_withdraw_get fun o ho ⟨slot, target⟩ => ?_
  obtain ⟨stands, plan, offLine⟩ := mem_toWithdraw.1 ho
  exact h o stands plan offLine slot target

theorem cancelled_target (unique : s.directory.orders.Pairwise fun a b => ¬ (a.slot = b.slot ∧ a.plan = b.plan))
    {o : Order} (ho : o ∈ toWithdraw s p) {x : DirSlot} {mark : Bool} {prior : Content} (target : o.target = some x)
    (content : (s.directory.dirs.get o.slot).get x = .loading o.plan mark prior) :
    ((cancelled s p).directory.dirs.get o.slot).get x = withdrawnSlot (s.directory.dirs.get o.slot) x o prior := by
  have apart : (toWithdraw s p).Pairwise fun a b => a.slot ≠ b.slot := by
    refine (unique.filter _).imp_of_mem fun {a b} ha hb differ same => differ ⟨same, ?_⟩
    exact (mem_toWithdraw.1 ha).2.1.trans (mem_toWithdraw.1 hb).2.1.symm
  rw [cancelled_dirs]
  exact foldl_withdraw_target apart ho target content

end cancelled

/-! ### SWITCH PLAN 0 (R136) -/

/-- The part once the switch to `p`, which is not the fallback plan, has been cancelled. -/
def switchCancelled (s : State) (p : PlanNo) : State := ((cancelled s p).tellArrivals s.directory).feed

theorem switchPlan_zero {s : State} (running : s.corridor.state = .running) : switchPlan 0 s = s.cancelSwitch := by
  simp [switchPlan, running]

theorem cancelSwitch_none {s : State} (none_pending : s.directory.pending = none) :
    s.cancelSwitch = (.ok [0], s) := by
  simp [State.cancelSwitch, none_pending]

theorem cancelSwitch_fallback {s : State} {p : PlanNo} (pending : s.directory.pending = some p)
    (fallback : s.corridor.settings.fallback = some p) :
    s.cancelSwitch =
      (.ok [u8 p.num], s.setDirectory { s.directory with pending := none, deadline := 0 }) := by
  simp [State.cancelSwitch, pending, fallback]

theorem cancelSwitch_other {s : State} {p : PlanNo} (pending : s.directory.pending = some p)
    (other : s.corridor.settings.fallback ≠ some p) :
    s.cancelSwitch = (.ok [u8 p.num], switchCancelled s p) := by
  simp only [State.cancelSwitch, pending, if_neg other]
  rfl

theorem execSwitchPlan_answers {s t : State} {r : Request} {y : Reply} (head : s.AtHead 0x0E [0] r)
    (running : s.corridor.state = .running) (h : s.cancelSwitch = (y, t)) :
    exec .switchPlan s = .next { t with host := answered t.host r y.result y.content } :=
  serve_stores head ((switchPlan_zero running).trans h)

section switchCancelled
variable {s : State} {p : PlanNo}

/-- A cancel changes the directories and the orders, the transmit queue, the Step Monitor, the notices and the count of
free values alone; nothing is pending any more. -/
theorem switchCancelled_eq :
    switchCancelled s p = { s with
      directory := { (switchCancelled s p).directory with
        active := s.directory.active, pending := none, deadline := 0 }
      line := { s.line with queue := (switchCancelled s p).line.queue }, free := (switchCancelled s p).free
      monitor := (switchCancelled s p).monitor, notices := (switchCancelled s p).notices } := by
  have plan : (switchCancelled s p).plan = (s.directory.active, none, 0) :=
    (State.feed_plan _).trans ((State.plan_of_directory (State.tellArrivals_directory _ _)).trans cancelled_plan)
  have line : QueueAlone s.line (switchCancelled s p).line := by
    refine .trans ?_ (feed_line _)
    rw [State.tellArrivals_line]
    exact cancelled_line
  simp only [State.plan, Prod.mk.injEq] at plan
  obtain ⟨active, pending, deadline⟩ := plan
  refine State.eq_of_blocks ?_ ?_ ?_ ?_ ?_ ?_ rfl ?directory line ?_ rfl rfl ?_
  case directory => rw [← active, ← pending, ← deadline]
  all_goals simp [switchCancelled, cancelled]

theorem switchCancelled_leftOnLine : LeftOnLine p (switchCancelled s p).directory.orders := by
  refine feed_leftOnLine ?_
  rw [State.tellArrivals_directory]
  exact cancelled_leftOnLine

theorem switchCancelled_of_closed (closed : s.line.period = false) :
    switchCancelled s p = (cancelled s p).tellArrivals s.directory := by
  refine feed_of_queuesNoFrame (.inl ?_)
  rw [State.tellArrivals_line, cancelled_line]
  exact closed

theorem switchCancelled_directory (closed : s.line.period = false) :
    (switchCancelled s p).directory = (cancelled s p).directory := by
  rw [switchCancelled_of_closed closed, State.tellArrivals_directory]

/-- With the period closed, exactly the junctions that await the active plan and have it back are readmitted. -/
theorem switchCancelled_arrivals (closed : s.line.period = false) (k : Slot) :
    (AwaitsPlan (s.monitor.get k) → ArrivesAt s (switchCancelled s p) k → ReadmittedAt s (switchCancelled s p) k) ∧
      (¬ (AwaitsPlan (s.monitor.get k) ∧ ArrivesAt s (switchCancelled s p) k) →
        KeptAt s (switchCancelled s p) k) := by
  have active : (cancelled s p).directory.active = s.directory.active := congrArg Prod.fst cancelled_plan
  obtain ⟨l, tells, told⟩ := tellArrivals_eq active
  have monitor : (cancelled s p).monitor = s.monitor := by simp [cancelled]
  have same : ArrivesAt s (switchCancelled s p) k ↔ k ∈ l :=
    (arrivesAt_congr (switchCancelled_directory closed) k).trans (told k).symm
  have before : KeptAt s (cancelled s p) k := by simp [KeptAt, cancelled]
  rw [same, switchCancelled_of_closed closed, tells]
  refine ⟨fun awaits hk => ?_, fun stays => keptAt_trans before (foldl_planArrived_keeps fun hk awaits => ?_)⟩
  · have readmits := foldl_planArrived_readmits hk (by rw [monitor]; exact awaits)
    rw [ReadmittedAt, monitor] at readmits
    exact readmits
  · rw [monitor] at awaits
    exact stays ⟨awaits, hk⟩

end switchCancelled

/-- Settles O31: the withdrawal decides the orders and the slots, and the arrivals decide who is readmitted. -/
theorem cancelWithdrawsTheSwitch : Obligations.CancelWithdrawsTheSwitch := by
  unfold Obligations.CancelWithdrawsTheSwitch
  rintro s r head running ⟨-, -, -, unique⟩
  refine ⟨fun none_pending => execSwitchPlan_answers head running (cancelSwitch_none none_pending),
    fun p pending fallback => execSwitchPlan_answers head running (cancelSwitch_fallback pending fallback),
    fun p pending other =>
      ⟨_, execSwitchPlan_answers head running (cancelSwitch_other pending other), ?_, switchCancelled_leftOnLine,
        fun closed => ⟨fun k excluded plan => (switchCancelled_arrivals closed k).1 ⟨excluded, plan⟩, fun k stays => ?_,
          ?_, fun k x untouched => ?_, fun o ho x mark prior plan offLine target content => ?_⟩⟩⟩
  · exact congrArg (fun t : State => { t with host := answered t.host r .ok [u8 p.num] }) switchCancelled_eq
  · obtain ⟨monitor, -, slots⟩ := (switchCancelled_arrivals closed k).2 fun ⟨awaits, arrives⟩ =>
      stays ⟨awaits.1, awaits.2, arrives⟩
    exact ⟨monitor, slots⟩
  · exact (congrArg DirectoryUnit.orders (switchCancelled_directory closed)).trans (cancelled_orders unique)
  · refine (congrArg (fun u => (u.dirs.get k).get x) (switchCancelled_directory closed)).trans ?_
    exact cancelled_get_of_ne untouched
  · subst plan
    refine (congrArg (fun u => (u.dirs.get o.slot).get x) (switchCancelled_directory closed)).trans ?_
    exact cancelled_target unique (mem_toWithdraw.2 ⟨ho, rfl, offLine⟩) target content

end Sys2Proof.Proofs.StepMonitoring
end

section
/-! PROOFS. One step: the command at the front of the queue is carried out, or with none waiting a decisecond passes,
which moves master time and the line alone (R13; log 1). -/

namespace Sys2Proof.Proofs.Stepping

open Sys2Proof.Machine

/-! ### What a step does, by its queue -/

theorem step_of_cons {c : Instr} {rest : List Instr} {s : State} (h : s.pending = c :: rest) :
    step s = exec c { s with pending := rest } := by
  simp only [step, h]

theorem step_of_nil {s : State} (h : s.pending = []) : step s = .next s.tick := by
  simp only [step, h]

/-! ### A decisecond -/

theorem tick_of_eventDue {s : State} (due : s.eventDue = true) : s.tick = s := if_pos due

/-- A decisecond leaves every block but the clock and the line, and of the clock all but master time. -/
theorem tick_keeps (s : State) :
    s.tick =
      { s with clock := { s.clock with masterTime := s.tick.clock.masterTime }, line := s.tick.line } := by
  cases due : s.eventDue with
  | true => rw [tick_of_eventDue due]
  | false => simp [State.tick, due, State.setClock, State.setLine]

/-- Master time stands while an event is due. -/
theorem tick_masterTime (s : State) :
    s.tick.clock.masterTime =
      if s.eventDue = true ∨ s.corridor.state = .idle then s.clock.masterTime else s.clock.masterTime + 1 := by
  cases due : s.eventDue with
  | true => rw [tick_of_eventDue due, if_pos (.inl rfl)]
  | false => simp [State.tick, due]

/-! ### The statements -/

/-- Settles O1: a queue that begins with a command is the second case of `step`. -/
theorem stepTakesTheFrontCommand : Obligations.StepTakesTheFrontCommand := by
  unfold Obligations.StepTakesTheFrontCommand
  exact fun _ _ _ queue => step_of_cons queue

/-- Settles O2: with an empty queue the next state is that of a decisecond. -/
theorem emptyQueueStepIsOneDecisecond : Obligations.EmptyQueueStepIsOneDecisecond := by
  unfold Obligations.EmptyQueueStepIsOneDecisecond
  intro s queue
  refine ⟨s.tick, step_of_nil queue, tick_keeps s, fun idle => ?_, tick_of_eventDue, fun live clear => ?_⟩
  · rw [tick_masterTime, if_pos (.inr idle)]
  · rw [tick_masterTime, if_neg]
    simp [live, clear]

end Sys2Proof.Proofs.Stepping
end

section
/-! PROOFS. The state after a cold reset is legal: Idle, no junction defined, the default settings, nothing queued, no
plan chosen and every directory Empty (R17). -/

namespace Sys2Proof.Proofs.ResetState

open Sys2Proof.Machine

/-! ### The blocks after reset -/

@[simp] theorem reset_state : State.reset.corridor.state = .idle := rfl

@[simp] theorem reset_table (k : Slot) : State.reset.corridor.table.get k = none := PerSlot.get_fill _ k

@[simp] theorem reset_approaches (k : Slot) : State.reset.flow.approaches.get k = none := PerSlot.get_fill _ k

@[simp] theorem reset_records (k : Slot) : State.reset.transition.records.get k = none := PerSlot.get_fill _ k

@[simp] theorem reset_monitor (k : Slot) : State.reset.monitor.get k = .vacant := PerSlot.get_fill _ k

@[simp] theorem initial_get (x : DirSlot) : Directory.initial.get x = .empty := by cases x <;> rfl

@[simp] theorem reset_dirs (k : Slot) (x : DirSlot) : (State.reset.directory.dirs.get k).get x = .empty :=
  (congrArg (Directory.get · x) (PerSlot.get_fill _ k)).trans (initial_get x)

/-! ### The invariants -/

theorem reset_layoutForm : LayoutForm State.reset.corridor.table := by
  constructor
  · intro k d defined
    cases (reset_table k).symm.trans defined
  · intro j k a b defined
    cases (reset_table j).symm.trans defined

/-- Every default lies in the range of its setting (R183). -/
theorem default_settingsInRange : SettingsInRange Settings.default := by
  intro i
  cases i <;> decide

theorem reset_queuesBounded : QueuesBounded State.reset :=
  ⟨Nat.zero_le _, Nat.zero_le _, Nat.zero_le _⟩

theorem reset_planStateLegal : PlanStateLegal State.reset := by
  refine ⟨fun _ => ⟨rfl, rfl, rfl⟩, fun starting => ?_, fun running => ?_, fun _ => rfl, ?_, fun p pending => ?_⟩
  · cases starting
  · cases running
  · decide
  · cases pending

theorem reset_flowLegal : FlowLegal State.reset := by
  refine ⟨fun _ => reset_approaches, fun k b approach => ?_⟩
  cases (reset_approaches k).symm.trans approach

/-- In Idle with no junction defined no slot has a record, and every slot is Vacant. -/
theorem reset_recordsLegal : RecordsLegal State.reset := by
  refine ⟨fun k => ?_, fun k => ?_, fun k => ?_, .nil⟩
  · simp
  · simp
  · simp [StepRecord.vacant]

theorem reset_beaconLegal : BeaconLegal State.reset := fun _ => List.not_mem_nil

/-- No order stands, and an Empty slot neither is Loading nor names a plan. -/
theorem reset_directoryLegal : DirectoryLegal State.reset := by
  refine ⟨fun k x p mark prior loading => ?_, fun o ordered => ?_, fun _ o ordered => ?_, fun f k x q fallback => ?_⟩
  · cases (reset_dirs k x).symm.trans loading
  · cases ordered
  · cases ordered
  · cases fallback

/-- Settles O4: each invariant is met by the blocks that reset sets. -/
theorem resetStateIsLegal : Obligations.ResetStateIsLegal := by
  unfold Obligations.ResetStateIsLegal
  exact ⟨reset_layoutForm, default_settingsInRange, reset_queuesBounded, reset_planStateLegal, reset_flowLegal,
    reset_recordsLegal, reset_beaconLegal, reset_directoryLegal⟩

end Sys2Proof.Proofs.ResetState
end
